-- ==== Sys2Proof/Word.lean ====
section
/-! DEFINITION. The two words of the WLS-6 that the manual treats as bits: the link's characters and the samplers' codes. -/

namespace Sys2Proof

/-- One character of the link: 8 data bits (R164). -/
abbrev Byte := BitVec 8

/-- One sample code of the power or the AE channel: 0 to 4,095 codes, 12 bits (R28, Table 10-8). -/
abbrev Code := BitVec 12

end Sys2Proof
end

