-- ==== Sys2Proof/Syntax.lean ====
section
/-! DEFINITION. The commands of the WLS-6: one constructor for each row of spec/opcode_table.json.

The rows are of two sorts. EVENTS come from the board, the grinders and the passing of time: they name a real station
or position, so those operands are `Fin`. REQUESTS come from the cell controller as numbers of a body field's width
(R172), which the checks of each request may refuse, so those operands are `Nat`, bounded by `Instr.wf`. -/

namespace Sys2Proof

/-- One board strap (R164). -/
inductive Strap where
  | opened
  | closed
  deriving DecidableEq, Repr

/-- The six straps that power-on reads: two for the line rate, four for the node address (R164). -/
structure Straps where
  rateHigh : Strap
  rateLow : Strap
  address3 : Strap
  address2 : Strap
  address1 : Strap
  address0 : Strap
  deriving DecidableEq, Repr

/-- The levels of the five cycle lines of one station; `true` is HIGH (Section 2.1). -/
structure Lines where
  pass : Bool
  dress : Bool
  partEnd : Bool
  class1 : Bool
  class0 : Bool
  deriving DecidableEq, Repr

/-- The two sensor channels of a station (R28). -/
inductive Channel where
  | power
  | ae
  deriving DecidableEq, Repr

/-- The commands, in the order of spec/opcode_table.json. -/
inductive Instr where
  /-- POWER_ON: power comes on with the straps as they stand (R31, R164). -/
  | powerOn (straps : Straps)
  /-- POWER_FAIL: power fails when the last `unfinished` commits of the event just taken had not completed (R22). -/
  | powerFail (unfinished : Nat)
  /-- SAMPLE: one sample event of a station, with the raw levels of its five lines (R28). -/
  | sample (station : Fin 6) (power ae : Code) (raw : Lines)
  /-- BURST: the burst counter of the station's live operation has reached N (R89). -/
  | burst (station : Fin 6)
  /-- CHANNEL_FAULT_LATCH: the channel's stuck counter has reached the stale window (R100). -/
  | channelFaultLatch (station : Fin 6) (channel : Channel)
  /-- CAPTURE_FREEZE: the post-trigger count of the station's FILLING capture has reached 256 (R117). -/
  | captureFreeze (station : Fin 6)
  /-- SWAP_TIMER_EXPIRY: the swap timer of the position reaches 0 (R142). -/
  | swapTimerExpiry (position : Fin 12)
  /-- REQUEST_FRAME: the characters of one whole frame arrive without a gap (R165, R168). -/
  | requestFrame (frame : List Byte)
  /-- GAP_TIMEOUT: 5 ms have passed without a further character (R166). -/
  | gapTimeout
  /-- REPLY_COMPLETE: the last byte of the reply has been sent (R169, R173). -/
  | replyComplete
  /-- DEFINE_TOOL (R13). -/
  | defineTool (tool kind tag limit warnPercent threshold persistence learnCount shift lowBound highBound stock
      dressDepth nominalDepth : Nat)
  /-- ADJUST_TOOL: the change set's bits 0 to 9 name the ten values that count (R14, R172). -/
  | adjustTool (tool changeSet tag limit warnPercent threshold persistence learnCount shift lowBound highBound
      depth : Nat)
  /-- READ_TOOL (R16). -/
  | readTool (tool : Nat)
  /-- DELETE_TOOL (R17). -/
  | deleteTool (tool : Nat)
  /-- RENEW_TOOL (R18). -/
  | renewTool (tool stock : Nat)
  /-- WITHDRAW_TOOL (R19). -/
  | withdrawTool (tool : Nat)
  /-- REINSTATE_TOOL (R20). -/
  | reinstateTool (tool : Nat)
  /-- CLEAR_REFERENCE: class selector 0 to 3, or 255 for all four (R21). -/
  | clearReference (tool selector : Nat)
  /-- DEFINE_GROUP: `chain` is the eight tool numbers of the body, the first `chainLength` of them the chain (R122, R172). -/
  | defineGroup (group kind chainLength : Nat) (chain : List Nat) (policy margin action overrunPercent onBurst onUnderload
      onOverload onContactLoss : Nat)
  /-- READ_GROUP (R124). -/
  | readGroup (group : Nat)
  /-- DELETE_GROUP (R125). -/
  | deleteGroup (group : Nat)
  /-- SET_STATION (R45). -/
  | setStation (station present eMin blank airLimit staleWindow action swapTimeout : Nat)
  /-- READ_STATION (R47). -/
  | readStation (station : Nat)
  /-- MOUNT (R148). -/
  | mount (position tool : Nat)
  /-- DISMOUNT (R149). -/
  | dismount (position : Nat)
  /-- CONFIRM_SWAP (R143). -/
  | confirmSwap (position tool : Nat)
  /-- CANCEL_SWAP (R146). -/
  | cancelSwap (position : Nat)
  /-- SWAP_NOW (R147). -/
  | swapNow (position : Nat)
  /-- VERDICT (R110). -/
  | verdict (station judged : Nat)
  /-- HOLD (R114). -/
  | hold (station : Nat)
  /-- RESUME (R114). -/
  | resume (station : Nat)
  /-- CLEAR_FAULT (R103). -/
  | clearFault (station : Nat)
  /-- RESET_STATION (R115). -/
  | resetStation (station : Nat)
  /-- FETCH_NOTICE (R158). -/
  | fetchNotice
  /-- SET_ATTENTION (R161). -/
  | setAttention (urgentEnable routineEnable level : Nat)
  /-- READ_CAPTURE (R119). -/
  | readCapture (station start : Nat)
  /-- CLEAR_TABLES (R174). -/
  | clearTables
  /-- RESET_SUPERVISOR (R173). -/
  | resetSupervisor
  /-- RECEIVED_CHARACTER: one character of the link; `error` says that its stop bit is missing (R164, R166). -/
  | receivedCharacter (char : Byte) (error : Bool)
  deriving DecidableEq, Repr

end Sys2Proof
end

