-- ==== Sys2Proof/Decode.lean ====
section
/-! DEFINITION. The decoder of table words (the table gives no bits, so it reads none), and the reader and writer of the
request bodies of the link (R165, R169, R172, Table 10-3). -/

namespace Sys2Proof

/-- No row of spec/opcode_table.json gives bits, so a table word spells no command. -/
def decodeTableWord (_nbits _w : Nat) : Option Instr := none

/-- `count` bytes of a number, high byte first (R165). -/
def be : (count value : Nat) → List Byte
  | 0, _ => []
  | count + 1, value => BitVec.ofNat 8 (value / 256 ^ count) :: be count value

/-- The number that bytes spell, high byte first (R165). -/
def num (bytes : List Byte) : Nat :=
  bytes.foldl (fun acc b => acc * 256 + b.toNat) 0

/-- The number held by `count` bytes of a body from the offset `at'`. -/
def field (body : List Byte) (at' count : Nat) : Nat :=
  num ((body.drop at').take count)

/-- Table 10-3: the body length of each request code. -/
def requestLength (code : Nat) : Option Nat :=
  match code with
  | 0x01 => some 22
  | 0x02 => some 20
  | 0x03 => some 1
  | 0x04 => some 1
  | 0x05 => some 3
  | 0x06 => some 1
  | 0x07 => some 1
  | 0x08 => some 2
  | 0x10 => some 22
  | 0x11 => some 1
  | 0x12 => some 1
  | 0x18 => some 13
  | 0x19 => some 1
  | 0x20 => some 2
  | 0x21 => some 1
  | 0x22 => some 2
  | 0x23 => some 1
  | 0x24 => some 1
  | 0x25 => some 2
  | 0x26 => some 1
  | 0x27 => some 1
  | 0x28 => some 1
  | 0x29 => some 1
  | 0x30 => some 0
  | 0x31 => some 3
  | 0x32 => some 3
  | 0x3D => some 0
  | 0x3F => some 0
  | _ => none

/-- The request that a code and a body of that code's length carry: the fields in the order in which the owning rule
lists them, each of the width R172 gives. -/
def decodeRequest (code : Nat) (body : List Byte) : Option Instr :=
  match code with
  | 0x01 => some (.defineTool (field body 0 1) (field body 1 1) (field body 2 2) (field body 4 4) (field body 8 1)
      (field body 9 2) (field body 11 1) (field body 12 1) (field body 13 1) (field body 14 2) (field body 16 2)
      (field body 18 2) (field body 20 1) (field body 21 1))
  | 0x02 => some (.adjustTool (field body 0 1) (field body 1 2) (field body 3 2) (field body 5 4) (field body 9 1)
      (field body 10 2) (field body 12 1) (field body 13 1) (field body 14 1) (field body 15 2) (field body 17 2)
      (field body 19 1))
  | 0x03 => some (.readTool (field body 0 1))
  | 0x04 => some (.deleteTool (field body 0 1))
  | 0x05 => some (.renewTool (field body 0 1) (field body 1 2))
  | 0x06 => some (.withdrawTool (field body 0 1))
  | 0x07 => some (.reinstateTool (field body 0 1))
  | 0x08 => some (.clearReference (field body 0 1) (field body 1 1))
  | 0x10 => some (.defineGroup (field body 0 1) (field body 1 1) (field body 2 1)
      [field body 3 1, field body 4 1, field body 5 1, field body 6 1, field body 7 1, field body 8 1, field body 9 1,
        field body 10 1]
      (field body 11 1) (field body 12 4) (field body 16 1) (field body 17 1) (field body 18 1) (field body 19 1)
      (field body 20 1) (field body 21 1))
  | 0x11 => some (.readGroup (field body 0 1))
  | 0x12 => some (.deleteGroup (field body 0 1))
  | 0x18 => some (.setStation (field body 0 1) (field body 1 1) (field body 2 4) (field body 6 1) (field body 7 1)
      (field body 8 2) (field body 10 1) (field body 11 2))
  | 0x19 => some (.readStation (field body 0 1))
  | 0x20 => some (.mount (field body 0 1) (field body 1 1))
  | 0x21 => some (.dismount (field body 0 1))
  | 0x22 => some (.confirmSwap (field body 0 1) (field body 1 1))
  | 0x23 => some (.cancelSwap (field body 0 1))
  | 0x24 => some (.swapNow (field body 0 1))
  | 0x25 => some (.verdict (field body 0 1) (field body 1 1))
  | 0x26 => some (.hold (field body 0 1))
  | 0x27 => some (.resume (field body 0 1))
  | 0x28 => some (.clearFault (field body 0 1))
  | 0x29 => some (.resetStation (field body 0 1))
  | 0x30 => some .fetchNotice
  | 0x31 => some (.setAttention (field body 0 1) (field body 1 1) (field body 2 1))
  | 0x32 => some (.readCapture (field body 0 1) (field body 1 2))
  | 0x3D => some .clearTables
  | 0x3F => some .resetSupervisor
  | _ => none

/-- The code and the body that carry a request (Table 10-3, R172); none for an event. -/
def encodeRequest : Instr → Option (Nat × List Byte)
  | .powerOn _ => none
  | .powerFail _ => none
  | .sample _ _ _ _ => none
  | .burst _ => none
  | .channelFaultLatch _ _ => none
  | .captureFreeze _ => none
  | .swapTimerExpiry _ => none
  | .requestFrame _ => none
  | .gapTimeout => none
  | .replyComplete => none
  | .defineTool tool kind tag limit warnPercent threshold persistence learnCount shift lowBound highBound stock
      dressDepth nominalDepth => some (0x01, be 1 tool ++ be 1 kind ++ be 2 tag ++ be 4 limit ++ be 1 warnPercent ++
      be 2 threshold ++ be 1 persistence ++ be 1 learnCount ++ be 1 shift ++ be 2 lowBound ++ be 2 highBound ++
      be 2 stock ++ be 1 dressDepth ++ be 1 nominalDepth)
  | .adjustTool tool changeSet tag limit warnPercent threshold persistence learnCount shift lowBound highBound depth =>
      some (0x02, be 1 tool ++ be 2 changeSet ++ be 2 tag ++ be 4 limit ++ be 1 warnPercent ++ be 2 threshold ++
      be 1 persistence ++ be 1 learnCount ++ be 1 shift ++ be 2 lowBound ++ be 2 highBound ++ be 1 depth)
  | .readTool tool => some (0x03, be 1 tool)
  | .deleteTool tool => some (0x04, be 1 tool)
  | .renewTool tool stock => some (0x05, be 1 tool ++ be 2 stock)
  | .withdrawTool tool => some (0x06, be 1 tool)
  | .reinstateTool tool => some (0x07, be 1 tool)
  | .clearReference tool selector => some (0x08, be 1 tool ++ be 1 selector)
  | .defineGroup group kind chainLength chain policy margin action overrunPercent onBurst onUnderload onOverload onContactLoss =>
      some (0x10, be 1 group ++ be 1 kind ++ be 1 chainLength ++ chain.flatMap (be 1) ++ be 1 policy ++ be 4 margin ++
      be 1 action ++ be 1 overrunPercent ++ be 1 onBurst ++ be 1 onUnderload ++ be 1 onOverload ++ be 1 onContactLoss)
  | .readGroup group => some (0x11, be 1 group)
  | .deleteGroup group => some (0x12, be 1 group)
  | .setStation station present eMin blank airLimit staleWindow action swapTimeout => some (0x18, be 1 station ++
      be 1 present ++ be 4 eMin ++ be 1 blank ++ be 1 airLimit ++ be 2 staleWindow ++ be 1 action ++ be 2 swapTimeout)
  | .readStation station => some (0x19, be 1 station)
  | .mount position tool => some (0x20, be 1 position ++ be 1 tool)
  | .dismount position => some (0x21, be 1 position)
  | .confirmSwap position tool => some (0x22, be 1 position ++ be 1 tool)
  | .cancelSwap position => some (0x23, be 1 position)
  | .swapNow position => some (0x24, be 1 position)
  | .verdict station judged => some (0x25, be 1 station ++ be 1 judged)
  | .hold station => some (0x26, be 1 station)
  | .resume station => some (0x27, be 1 station)
  | .clearFault station => some (0x28, be 1 station)
  | .resetStation station => some (0x29, be 1 station)
  | .fetchNotice => some (0x30, [])
  | .setAttention urgentEnable routineEnable level =>
      some (0x31, be 1 urgentEnable ++ be 1 routineEnable ++ be 1 level)
  | .readCapture station start => some (0x32, be 1 station ++ be 2 start)
  | .clearTables => some (0x3D, [])
  | .resetSupervisor => some (0x3F, [])
  | .receivedCharacter _ _ => none

/-- One step of the CRC-16: a bit of the register leaves at the top and the polynomial x^16 + x^12 + x^5 + 1 is taken off
when it is 1 (R167). -/
def crcBit (reg : BitVec 16) : BitVec 16 :=
  if reg.getLsbD 15 then (reg <<< 1) ^^^ 0x1021#16 else reg <<< 1

/-- One byte enters the CRC-16, most significant bit first (R167). -/
def crcByte (reg : BitVec 16) (b : Byte) : BitVec 16 :=
  crcBit (crcBit (crcBit (crcBit (crcBit (crcBit (crcBit (crcBit (reg ^^^ (b.zeroExtend 16 <<< 8)))))))))

/-- The CRC-16 of the bytes: initial value 0xFFFF, no reflection, no final inversion (R167). -/
def crc16 (bytes : List Byte) : BitVec 16 :=
  bytes.foldl crcByte 0xFFFF#16

/-- The bytes between the lead byte and the CRC, then the two CRC bytes, high byte first (R165, R167). -/
def sealed (inner : List Byte) : List Byte :=
  0xD5#8 :: inner ++ be 2 (crc16 inner).toNat

/-- The request frame of Table 10-1 that carries a request to a node; none for an event. -/
def encodeFrame (node : Nat) (i : Instr) : Option (List Byte) :=
  (encodeRequest i).map fun (code, body) =>
    sealed (BitVec.ofNat 8 node :: BitVec.ofNat 8 body.length :: BitVec.ofNat 8 code :: body)

end Sys2Proof
end

