-- ==== Sys2Proof/Config.lean ====
section
/-! DEFINITION. The values the manual leaves open after a step that goes on: uninterpreted constants, so that nothing can be proved of them. -/

namespace Sys2Proof.Config

/-- FREE VALUE (log entry 1). The tag that a SIGNAL_CONFLICT notice carries when the latched tool it names has been
deleted while its operation ran on: R153 gives the tag of a defined tool and of tool 0 only. -/
opaque undefinedToolTag : Nat → BitVec 16

/-- FREE VALUE (log entry 2). The byte that READ_STATION returns at an offset of its body for a latched field that
belongs to the operation's kind but was not latched, because the tool it comes from was none: R33 and R34 latch those
fields only from a tool, and R47 gives 0 only for the fields of the other kind. -/
opaque unlatchedByte : Nat → Byte

end Sys2Proof.Config
end

