-- ==== Sys2Proof/Machine/State.lean ====
section
/-! DEFINITION. The state of the WLS-6 as plain data: the retained tables, the volatile state of the seven blocks, the
millisecond clock, the journal of commits of the event just taken, and the queue of waiting commands. -/

namespace Sys2Proof.Machine

/-- The kind of a tool, of a group and of a position (R1, R120, R134). -/
inductive Kind where
  | wheel
  | dresser
  deriving DecidableEq, Repr

/-- Where a tool is (R6). -/
inductive Placement where
  | store
  | reserved (position : Fin 12)
  | mounted (position : Fin 12)
  deriving DecidableEq, Repr

/-- The wear state of a tool (R8, R10). -/
inductive Condition where
  | sound
  | warned
  | spent
  | overrun
  | broken
  | withdrawn
  deriving DecidableEq, Repr

/-- The state of a class reference (R3). -/
inductive RefState where
  | unlearned
  | learning
  | learned
  deriving DecidableEq, Repr

/-- One class reference: the state, the count n, the 40-bit learning sum and the 32-bit reference value (R3). -/
structure ClassRef where
  state : RefState
  n : Nat
  sum : Nat
  value : Nat
  deriving DecidableEq, Repr

/-- An UNLEARNED reference (R3). -/
def ClassRef.cleared : ClassRef := ⟨.unlearned, 0, 0, 0⟩

/-- The classes of a detection (R86). -/
inductive DetClass where
  | burst
  | underload
  | overload
  | contactLoss
  deriving DecidableEq, Repr

/-- The four 16-bit tallies of a tool (R4). -/
structure Tallies where
  burst : Nat
  underload : Nat
  overload : Nat
  contactLoss : Nat
  deriving DecidableEq, Repr

/-- A defined tool record (R1, Table 1-1). The tool number is the record's key in the table. -/
structure Tool where
  kind : Kind
  tag : Nat
  group : Nat
  placement : Placement
  condition : Condition
  limit : Nat
  warnPercent : Nat
  used : Nat
  threshold : Nat
  persistence : Nat
  learnCount : Nat
  shift : Nat
  lowBound : Nat
  highBound : Nat
  stock : Nat
  dressDepth : Nat
  nominalDepth : Nat
  dressCount : Nat
  refs : Vector ClassRef 4
  tallies : Tallies
  deriving DecidableEq, Repr

/-- How a scan walks the chain (R127). -/
inductive Policy where
  | chain
  | rotate
  deriving DecidableEq, Repr

/-- What an exhausted group does (R129). -/
inductive Exhaustion where
  | hold
  | runOn
  deriving DecidableEq, Repr

/-- What a group books for a detection (R93). -/
inductive Response where
  | condemn
  | suspend
  | report
  | ignore
  deriving DecidableEq, Repr

/-- One response for each detection class (R93, R120). -/
structure Responses where
  burst : Response
  underload : Response
  overload : Response
  contactLoss : Response
  deriving DecidableEq, Repr

/-- A defined group record (R120). All of it is retained but the waiting list, which every power-on empties. -/
structure Group where
  kind : Kind
  chain : List Nat
  policy : Policy
  cursor : Nat
  margin : Nat
  action : Exhaustion
  overrunPercent : Nat
  responses : Responses
  waiting : List (Fin 12)
  deriving DecidableEq, Repr

/-- A table of records by number: the listed numbers are the defined ones, and they stand strictly rising. -/
abbrev Table (α : Type) := List (Nat × α)

/-- The action on a channel fault (R44, R101). -/
inductive FaultAction where
  | hold
  | degrade
  deriving DecidableEq, Repr

/-- A station's configuration record (R44). -/
structure StationConfig where
  present : Bool
  eMin : Nat
  blank : Nat
  airLimit : Nat
  staleWindow : Nat
  action : FaultAction
  swapTimeout : Nat
  deriving DecidableEq, Repr

/-- The record of the part as delivered (R44). -/
def StationConfig.delivered : StationConfig := ⟨false, 2000, 40, 3, 2000, .hold, 300⟩

/-- The six states of a station monitor (Section 2.3). -/
inductive MonitorState where
  | off
  | settling
  | idle
  | pass
  | dress
  | conflict
  deriving DecidableEq, Repr

/-- The kind of an operation. -/
inductive OpKind where
  | pass
  | dress
  deriving DecidableEq, Repr

/-- The burst-check parameters latched from the tool of the operation (R33, R34). -/
structure CheckParams where
  threshold : Nat
  persistence : Nat
  deriving DecidableEq, Repr

/-- The judgement parameters latched from the wheel of a pass (R33). -/
structure JudgeParams where
  learnCount : Nat
  shift : Nat
  lowBound : Nat
  highBound : Nat
  deriving DecidableEq, Repr

/-- The latched record of an operation (R33, R34, R47). Tool number 0 is none. `eMin` is 0 in a dress. -/
structure Latched where
  kind : OpKind
  passClass : Option (Fin 4)
  wheel : Nat
  dresser : Nat
  eMin : Nat
  blank : Nat
  staleWindow : Nat
  check : Option CheckParams
  judge : Option JudgeParams
  depth : Option Nat
  nominal : Option Nat
  void : Bool
  wheelVoid : Bool
  deriving DecidableEq, Repr

/-- The stuck check's state for one channel (R99). -/
structure ChannelState where
  previous : Option Code
  stuck : Nat
  fault : Bool
  deriving DecidableEq, Repr

/-- A channel after a reset (R99). -/
def ChannelState.fresh : ChannelState := ⟨none, 0, false⟩

/-- The five lines all LOW, and likewise no line marked. -/
def Lines.low : Lines := ⟨false, false, false, false, false⟩

/-- One station monitor (Sections 2.1 to 2.4, R87, R99). `differing` marks the lines whose raw level differed from the
filtered level at the last sample, and `primed` that the filter has had its starting sample (R25, R26). `lastIndex` is
the ring index of the last sample of the operation (R36). -/
structure Monitor where
  state : MonitorState
  filtered : Lines
  differing : Lines
  primed : Bool
  op : Option Latched
  energy : Nat
  powerFaultMark : Bool
  sampleCount : Nat
  blanking : Nat
  burstCounter : Nat
  runPeak : Nat
  burstDone : Bool
  power : ChannelState
  ae : ChannelState
  air : Nat
  lastIndex : Nat
  deriving DecidableEq, Repr

/-- The working state after each reset, in the given monitor state (R26, R31, R87, R99). -/
def Monitor.fresh (st : MonitorState) : Monitor :=
  ⟨st, Lines.low, Lines.low, false, none, 0, false, 0, 0, 0, 0, false, ChannelState.fresh, ChannelState.fresh, 0, 0⟩

/-- The capture states (R116). -/
inductive CaptureState where
  | none
  | filling
  | frozen
  deriving DecidableEq, Repr

/-- One capture ring (R116): the readable sample pairs, newest first; the slot (0 to 1,023) that the next write fills; the
capture state; the trigger's slot; and the post-trigger count. The length is that of `samples`. -/
structure Capture where
  samples : List (Code × Code)
  next : Nat
  state : CaptureState
  trigger : Option Nat
  post : Nat
  deriving DecidableEq, Repr

/-- An emptied ring (R31, R116). -/
def Capture.empty : Capture := ⟨[], 0, .none, none, 0⟩

/-- The incident record of a station (R105); its capture state is held with the ring. Tool number 0 is none. -/
structure Incident where
  isOpen : Bool
  cls : Option DetClass
  response : Option Response
  tool : Nat
  posKind : Option Kind
  passClass : Option (Fin 4)
  value : Nat
  time : Nat
  repeats : Nat
  otherTool : Bool
  deriving DecidableEq, Repr

/-- The record that a reset or SET_STATION leaves (R105). -/
def Incident.cleared : Incident := ⟨false, none, none, 0, none, none, 0, 0, 0, false⟩

/-- The three flags of a station that the incident and hold unit owns (R112). -/
structure StationFlags where
  startup : Bool
  forced : Bool
  sensor : Bool
  deriving DecidableEq, Repr

/-- All three flags clear. -/
def StationFlags.clear : StationFlags := ⟨false, false, false⟩

/-- The eight position states (R135). -/
inductive PositionState where
  | empty
  | serving
  | due
  | ordered
  | timedOut
  | halted
  | waiting
  | runOn
  deriving DecidableEq, Repr

/-- A position record (R134). Tool number 0 is none. -/
structure Position where
  state : PositionState
  active : Nat
  sister : Nat
  timer : Nat
  deriving DecidableEq, Repr

/-- A position with no tool (R135). -/
def Position.vacant : Position := ⟨.empty, 0, 0, 0⟩

/-- The twelve kinds of notice (R154). -/
inductive NoticeKind where
  | incident
  | swapOrder
  | swapTimeout
  | noSister
  | sensorFault
  | warn
  | spent
  | learned
  | detection
  | swapDone
  | runOn
  | signalConflict
  deriving DecidableEq, Repr

/-- A notice (R153), with its details as the numbers of Table 10-7. -/
structure Notice where
  kind : NoticeKind
  station : Option (Fin 6)
  posKind : Option Kind
  tool : Nat
  tag : Nat
  detailA : Nat
  detailB : Nat
  time : Nat
  deriving DecidableEq, Repr

/-- The notice queues block (Chapter 9): both queues oldest first, the lost flags, the consecutive urgent fetch count, the
enables and the routine trigger level. -/
structure NoticeQueues where
  urgent : List Notice
  routine : List Notice
  urgentLost : Bool
  routineLost : Bool
  count : Nat
  urgentEnable : Bool
  routineEnable : Bool
  level : Nat
  deriving DecidableEq, Repr

/-- The block after power-on (R162). -/
def NoticeQueues.fresh : NoticeQueues := ⟨[], [], false, false, 0, true, true, 1⟩

/-- The result codes of a reply (R171, Table 10-5); `alreadyDefined` is the manual's EXISTS, a word that Lean keeps. -/
inductive ResultCode where
  | ok
  | adjusted
  | unknownRequest
  | badLength
  | badValue
  | notDefined
  | alreadyDefined
  | busy
  | wrongState
  | wrongKind
  | conflict
  | wrongTool
  | late
  | empty
  | notReady
  | absent
  deriving DecidableEq, Repr

/-- The content of a reply: summary byte, result code and body (Table 10-2). -/
structure Reply where
  summary : Byte
  result : ResultCode
  body : List Byte
  deriving DecidableEq, Repr

/-- The line rates (R164). -/
inductive LineRate where
  | baud19200
  | baud38400
  | baud115200
  | baud230400
  deriving DecidableEq, Repr

/-- The frame assembly states (R166). -/
inductive PortState where
  | hunt
  | assemble
  | execute
  | reply
  deriving DecidableEq, Repr

/-- The link port (R164, R166): the node address and line rate read at power-on, the assembly state, the bytes of the
partial frame, the milliseconds since its last character, the last reply formed, and whether the reset of an answered
RESET_SUPERVISOR is still to be taken (R173). -/
structure LinkPort where
  address : Nat
  rate : LineRate
  state : PortState
  buffer : List Byte
  gap : Nat
  reply : Option Reply
  resetPending : Bool
  deriving DecidableEq, Repr

/-- What a commit overwrote in one retained record, so that a power failure can put it back (R22). -/
inductive RetainedWrite where
  | tool (number : Nat) (old : Option Tool)
  | group (number : Nat) (old : Option Group)
  | config (station : Fin 6) (old : StationConfig)
  | tables (oldTools : Table Tool) (oldGroups : Table Group)
  deriving DecidableEq, Repr

/-- One commit of retained memory: the records it wrote, with what each held before. -/
abbrev Commit := List RetainedWrite

/-- The machine. `journal` is the MODEL's own field (log entry 3): the commits of the event just taken, newest first.
`pending` is the queue of waiting commands, oldest first. -/
structure State where
  powered : Bool
  clock : Nat
  tools : Table Tool
  groups : Table Group
  configs : Vector StationConfig 6
  monitors : Vector Monitor 6
  captures : Vector Capture 6
  incidents : Vector Incident 6
  flags : Vector StationFlags 6
  positions : Vector Position 12
  notices : NoticeQueues
  link : LinkPort
  journal : List Commit
  pending : List Instr
  deriving DecidableEq, Repr

/-- The reasons to stop with a fault: there is none. The manual answers every request with a result code and gives every
event an effect, so no command of this part stops it. -/
inductive Fault
  deriving DecidableEq, Repr

/-- The reasons to refuse a command. -/
inductive Refusal where
  /-- Raised by an arm of `exec` whose command has no meaning yet. Safe: the run stops. -/
  | notModelled (mnemonic : String)
  deriving DecidableEq, Repr

/-- The part as delivered, right after its first power-on: no tool and no group defined (log entry 4), every station
absent (R44), every block at its reset values (R31, R105, R113, R150, R155, R162, R166), and all six straps open, so that
the node address is 15 and the line rate 19,200 bit/s (R164, log entry 5). -/
def State.reset : State where
  powered := true
  clock := 0
  tools := []
  groups := []
  configs := Vector.replicate 6 StationConfig.delivered
  monitors := Vector.replicate 6 (Monitor.fresh .off)
  captures := Vector.replicate 6 Capture.empty
  incidents := Vector.replicate 6 Incident.cleared
  flags := Vector.replicate 6 StationFlags.clear
  positions := Vector.replicate 12 Position.vacant
  notices := NoticeQueues.fresh
  link := ⟨15, .baud19200, .hunt, [], 0, none, false⟩
  journal := []
  pending := []

end Sys2Proof.Machine
end

