-- ==== Sys2Proof/Machine/Ops.lean ====
section
/-! DEFINITION. The named operations over the state: tables of records, the whole-field updates, stations and positions,
the journal of commits, and the two notice queues. -/

namespace Sys2Proof.Machine

/-! ### Tables of records -/

/-- The record of a number, none when it is undefined (R1, R120). -/
def tableGet {α : Type} : Table α → Nat → Option α
  | [], _ => none
  | (k, v) :: rest, n => if k = n then some v else tableGet rest n

/-- The table with the record of a number written, in its place. -/
def tablePut {α : Type} : Table α → Nat → α → Table α
  | [], n, v => [(n, v)]
  | (k, w) :: rest, n, v =>
    if n < k then (n, v) :: (k, w) :: rest
    else if n = k then (n, v) :: rest
    else (k, w) :: tablePut rest n v

/-- The table with the record of a number made undefined. -/
def tableErase {α : Type} : Table α → Nat → Table α
  | [], _ => []
  | (k, w) :: rest, n => if k = n then rest else (k, w) :: tableErase rest n

/-- The table with every record changed. -/
def tableMap {α : Type} (f : α → α) : Table α → Table α
  | [] => []
  | (k, v) :: rest => (k, f v) :: tableMap f rest

/-- The numbers of a table stand strictly rising, from above `low`. -/
def tableRises {α : Type} : Nat → Table α → Bool
  | _, [] => true
  | low, (k, _) :: rest => decide (low < k) && tableRises k rest

/-- The canonical form of a table: numbers strictly rising, all above 0 (0 means none, Section 0.4.3). -/
def tableWf {α : Type} (t : Table α) : Bool := tableRises 0 t

/-! ### Stations, positions and classes -/

/-- The stations, in order. -/
def allStations : List (Fin 6) := [0, 1, 2, 3, 4, 5]

/-- The positions, in order. -/
def allPositions : List (Fin 12) := [0, 1, 2, 3, 4, 5, 6, 7, 8, 9, 10, 11]

/-- One value for each station. -/
def perStation {α : Type} (f : Fin 6 → α) : Vector α 6 := #v[f 0, f 1, f 2, f 3, f 4, f 5]

/-- One value for each position. -/
def perPosition {α : Type} (f : Fin 12 → α) : Vector α 12 :=
  #v[f 0, f 1, f 2, f 3, f 4, f 5, f 6, f 7, f 8, f 9, f 10, f 11]

/-- One value for each pass class. -/
def perClass {α : Type} (f : Fin 4 → α) : Vector α 4 := #v[f 0, f 1, f 2, f 3]

/-- The station of a position (Section 0.4.2). -/
def stationOf (p : Fin 12) : Fin 6 := ⟨p.val / 2, by omega⟩

/-- The wheel position of a station (Section 0.4.2). -/
def wheelPos (st : Fin 6) : Fin 12 := ⟨st.val * 2, by omega⟩

/-- The dresser position of a station (Section 0.4.2). -/
def dresserPos (st : Fin 6) : Fin 12 := ⟨st.val * 2 + 1, by omega⟩

/-- The kind of tool a position seats: a wheel on an even one, a dresser on an odd one (R134). -/
def seatKind (p : Fin 12) : Kind := if p.val % 2 = 0 then .wheel else .dresser

/-- The position of a station that seats a kind. -/
def positionOf (st : Fin 6) : Kind → Fin 12
  | .wheel => wheelPos st
  | .dresser => dresserPos st

/-! ### Whole-field updates -/

def State.withPowered (s : State) (v : Bool) : State := { s with powered := v }
def State.withClock (s : State) (v : Nat) : State := { s with clock := v }
def State.withTools (s : State) (v : Table Tool) : State := { s with tools := v }
def State.withGroups (s : State) (v : Table Group) : State := { s with groups := v }
def State.withConfigs (s : State) (v : Vector StationConfig 6) : State := { s with configs := v }
def State.withMonitors (s : State) (v : Vector Monitor 6) : State := { s with monitors := v }
def State.withCaptures (s : State) (v : Vector Capture 6) : State := { s with captures := v }
def State.withIncidents (s : State) (v : Vector Incident 6) : State := { s with incidents := v }
def State.withFlags (s : State) (v : Vector StationFlags 6) : State := { s with flags := v }
def State.withPositions (s : State) (v : Vector Position 12) : State := { s with positions := v }
def State.withNotices (s : State) (v : NoticeQueues) : State := { s with notices := v }
def State.withLink (s : State) (v : LinkPort) : State := { s with link := v }
def State.withJournal (s : State) (v : List Commit) : State := { s with journal := v }
def State.withPending (s : State) (v : List Instr) : State := { s with pending := v }

/-! ### Reads -/

def State.tool? (s : State) (n : Nat) : Option Tool := tableGet s.tools n
def State.group? (s : State) (n : Nat) : Option Group := tableGet s.groups n
def State.config (s : State) (st : Fin 6) : StationConfig := s.configs[st]
def State.monitor (s : State) (st : Fin 6) : Monitor := s.monitors[st]
def State.capture (s : State) (st : Fin 6) : Capture := s.captures[st]
def State.incident (s : State) (st : Fin 6) : Incident := s.incidents[st]
def State.flag (s : State) (st : Fin 6) : StationFlags := s.flags[st]
def State.position (s : State) (p : Fin 12) : Position := s.positions[p]

/-! ### Writes of one record -/

def State.setTool (s : State) (n : Nat) (t : Tool) : State := s.withTools (tablePut s.tools n t)
def State.eraseTool (s : State) (n : Nat) : State := s.withTools (tableErase s.tools n)
def State.setGroup (s : State) (n : Nat) (g : Group) : State := s.withGroups (tablePut s.groups n g)
def State.eraseGroup (s : State) (n : Nat) : State := s.withGroups (tableErase s.groups n)
def State.setConfig (s : State) (st : Fin 6) (c : StationConfig) : State := s.withConfigs (s.configs.set st c)
def State.setMonitor (s : State) (st : Fin 6) (m : Monitor) : State := s.withMonitors (s.monitors.set st m)
def State.setCapture (s : State) (st : Fin 6) (c : Capture) : State := s.withCaptures (s.captures.set st c)
def State.setIncident (s : State) (st : Fin 6) (i : Incident) : State := s.withIncidents (s.incidents.set st i)
def State.setFlag (s : State) (st : Fin 6) (f : StationFlags) : State := s.withFlags (s.flags.set st f)
def State.setPosition (s : State) (p : Fin 12) (x : Position) : State := s.withPositions (s.positions.set p x)

/-- Changes a defined tool record; an undefined one stays undefined. -/
def State.modifyTool (s : State) (n : Nat) (f : Tool → Tool) : State :=
  match s.tool? n with
  | some t => s.setTool n (f t)
  | none => s

/-- Changes a defined group record; an undefined one stays undefined. -/
def State.modifyGroup (s : State) (n : Nat) (f : Group → Group) : State :=
  match s.group? n with
  | some g => s.setGroup n (f g)
  | none => s

/-- Changes a station monitor. -/
def State.modifyMonitor (s : State) (st : Fin 6) (f : Monitor → Monitor) : State := s.setMonitor st (f (s.monitor st))

/-! ### The journal of commits (R22) -/

/-- A new event begins: the commits of the event before it are complete. -/
def State.beginEvent (s : State) : State := s.withJournal []

/-- An event of a part with power; without power the part takes nothing (log entry 6). -/
def State.event (s : State) (f : State → State) : State := if s.powered then f s.beginEvent else s

/-- One commit on the retained records it is about to write, with what they hold now. -/
def State.commit (s : State) (writes : List RetainedWrite) : State := s.withJournal (writes :: s.journal)

/-- What a tool record holds now, for a commit. -/
def State.oldTool (s : State) (n : Nat) : RetainedWrite := .tool n (s.tool? n)

/-- What a group record holds now, for a commit. -/
def State.oldGroup (s : State) (n : Nat) : RetainedWrite := .group n (s.group? n)

/-- One retained record put back to what it held before an unfinished commit. -/
def State.putBack (s : State) : RetainedWrite → State
  | .tool n (some t) => s.setTool n t
  | .tool n none => s.eraseTool n
  | .group n (some g) => s.setGroup n g
  | .group n none => s.eraseGroup n
  | .config st c => s.setConfig st c
  | .tables ts gs => (s.withTools ts).withGroups gs

/-- The retained memory as the unfinished newest commits leave it: each holds none of its changes (R22). -/
def State.undoCommits (s : State) : Nat → List Commit → State
  | 0, _ => s
  | _ + 1, [] => s
  | k + 1, c :: rest => (c.foldl State.putBack s).undoCommits k rest

/-! ### Notices -/

/-- The urgent queue holds at most 16 notices (R156). -/
def urgentCapacity : Nat := 16

/-- The routine queue holds at most 48 notices (R156). -/
def routineCapacity : Nat := 48

/-- A notice joins the tail of its queue, or is dropped with that queue's lost flag set when the queue is full (R156, R157). -/
def NoticeQueues.push (q : NoticeQueues) (urgent : Bool) (n : Notice) : NoticeQueues :=
  if urgent then
    if q.urgent.length < urgentCapacity then { q with urgent := q.urgent ++ [n] } else { q with urgentLost := true }
  else
    if q.routine.length < routineCapacity then { q with routine := q.routine ++ [n] } else { q with routineLost := true }

/-- The tag a notice carries for a tool: its present tag, or 0 when the tool is 0 (R153). The tag of a tool whose record
is undefined is a free value (log entry 1). -/
def State.tagOf (s : State) (tool : Nat) : Nat :=
  if tool = 0 then 0
  else match s.tool? tool with
    | some t => t.tag
    | none => (Config.undefinedToolTag tool).toNat

/-- A notice is made and handed to the notice queues within the event that causes it (R153). -/
def State.notify (s : State) (urgent : Bool) (kind : NoticeKind) (station : Option (Fin 6)) (posKind : Option Kind)
    (tool detailA detailB : Nat) : State :=
  s.withNotices (s.notices.push urgent ⟨kind, station, posKind, tool, s.tagOf tool, detailA, detailB, s.clock⟩)

/-! ### Saturation (Section 0.4.4) -/

/-- The largest value of a 32-bit count. -/
def max32 : Nat := 4294967295

/-- A sum that stays at the 32-bit maximum once it would pass it. -/
def satAdd32 (a b : Nat) : Nat := min max32 (a + b)

end Sys2Proof.Machine
end

