-- ==== Sys2Proof/Machine/Operands.lean ====
section
/-! DEFINITION. The operand forms of the requests: identifiers, enumerations and clamped numeric settings on the way in
(R172), and the codes of enumerations on the way out (Section 10.6). -/

namespace Sys2Proof.Machine

/-! ### Identifiers: refused with BAD_VALUE out of range, never clamped (R172) -/

/-- A station number 0 to 5. -/
def stationArg (n : Nat) : Option (Fin 6) := if h : n < 6 then some ⟨n, h⟩ else none

/-- A position number 0 to 11. -/
def positionArg (n : Nat) : Option (Fin 12) := if h : n < 12 then some ⟨n, h⟩ else none

/-- A tool number 1 to 128. -/
def isToolNumber (n : Nat) : Bool := decide (1 ≤ n) && decide (n ≤ 128)

/-- A group number 1 to 32. -/
def isGroupNumber (n : Nat) : Bool := decide (1 ≤ n) && decide (n ≤ 32)

/-! ### Enumerations (R172) -/

def kindArg : Nat → Option Kind
  | 0 => some .wheel
  | 1 => some .dresser
  | _ => none

def presentArg : Nat → Option Bool
  | 0 => some false
  | 1 => some true
  | _ => none

def enableArg : Nat → Option Bool
  | 0 => some false
  | 1 => some true
  | _ => none

def faultActionArg : Nat → Option FaultAction
  | 0 => some .hold
  | 1 => some .degrade
  | _ => none

def policyArg : Nat → Option Policy
  | 0 => some .chain
  | 1 => some .rotate
  | _ => none

def exhaustionArg : Nat → Option Exhaustion
  | 0 => some .hold
  | 1 => some .runOn
  | _ => none

def responseArg : Nat → Option Response
  | 0 => some .condemn
  | 1 => some .suspend
  | 2 => some .report
  | 3 => some .ignore
  | _ => none

/-- The verdict: SOUND 0 (`false`), BROKEN 1 (`true`). -/
def verdictArg : Nat → Option Bool
  | 0 => some false
  | 1 => some true
  | _ => none

/-- The class selector of CLEAR_REFERENCE: whether a class is selected, none when the selector is out of range (R21). -/
def selectorArg (n : Nat) : Option (Fin 4 → Bool) :=
  if n = 255 then some fun _ => true
  else if n < 4 then some fun c => c.val == n
  else none

/-! ### Numeric settings: clamped to the nearest end of their range (R12, R172) -/

/-- A carried value brought into a range (Section 0.4.4). -/
def clamp (lo hi v : Nat) : Nat := if v < lo then lo else if hi < v then hi else v

/-- A numeric setting as taken, with whether it was clamped. -/
structure Setting where
  value : Nat
  clamped : Bool
  deriving DecidableEq, Repr

/-- A carried value clamped to its range. -/
def setting (lo hi v : Nat) : Setting := ⟨clamp lo hi v, decide (clamp lo hi v ≠ v)⟩

/-- A value of DEFINE_TOOL that has a default: carried as 0 it takes the default without ADJUSTED (R13). -/
def settingOr (default' lo hi v : Nat) : Setting := if v = 0 then ⟨default', false⟩ else setting lo hi v

/-- A value of ADJUST_TOOL: ignored and never clamped when its bit of the change set is clear (R14, R172). -/
def settingIf (named : Bool) (held lo hi v : Nat) : Setting := if named then setting lo hi v else ⟨held, false⟩

/-- The trigger level: 1, 8, 16 or 32, a carried value going to the next level up (R161). -/
def levelSetting (v : Nat) : Setting :=
  let level := if v ≤ 1 then 1 else if v ≤ 8 then 8 else if v ≤ 16 then 16 else 32
  ⟨level, decide (level ≠ v)⟩

/-- OK, or ADJUSTED when a value was clamped (R171). -/
def taken (clamped : Bool) : ResultCode := if clamped then .adjusted else .ok

/-! ### Codes of enumerations in bodies and notices (Section 10.6) -/

def Kind.code : Kind → Nat
  | .wheel => 0
  | .dresser => 1

def Placement.code : Placement → Nat
  | .store => 0
  | .reserved _ => 1
  | .mounted _ => 2

/-- The position of a placement; 0xFF in STORE (Table 10-6). -/
def Placement.positionCode : Placement → Nat
  | .store => 0xFF
  | .reserved p => p.val
  | .mounted p => p.val

def Condition.code : Condition → Nat
  | .sound => 0
  | .warned => 1
  | .spent => 2
  | .overrun => 3
  | .broken => 4
  | .withdrawn => 5

def RefState.code : RefState → Nat
  | .unlearned => 0
  | .learning => 1
  | .learned => 2

def DetClass.code : DetClass → Nat
  | .burst => 0
  | .underload => 1
  | .overload => 2
  | .contactLoss => 3

def Response.code : Response → Nat
  | .condemn => 0
  | .suspend => 1
  | .report => 2
  | .ignore => 3

def Policy.code : Policy → Nat
  | .chain => 0
  | .rotate => 1

def Exhaustion.code : Exhaustion → Nat
  | .hold => 0
  | .runOn => 1

def FaultAction.code : FaultAction → Nat
  | .hold => 0
  | .degrade => 1

def MonitorState.code : MonitorState → Nat
  | .off => 0
  | .settling => 1
  | .idle => 2
  | .pass => 3
  | .dress => 4
  | .conflict => 5

def OpKind.code : OpKind → Nat
  | .pass => 0
  | .dress => 1

def CaptureState.code : CaptureState → Nat
  | .none => 0
  | .filling => 1
  | .frozen => 2

def PositionState.code : PositionState → Nat
  | .empty => 0
  | .serving => 1
  | .due => 2
  | .ordered => 3
  | .timedOut => 4
  | .halted => 5
  | .waiting => 6
  | .runOn => 7

def NoticeKind.code : NoticeKind → Nat
  | .incident => 0x01
  | .swapOrder => 0x02
  | .swapTimeout => 0x03
  | .noSister => 0x04
  | .sensorFault => 0x05
  | .warn => 0x06
  | .spent => 0x07
  | .learned => 0x08
  | .detection => 0x09
  | .swapDone => 0x0A
  | .runOn => 0x0B
  | .signalConflict => 0x0C

/-- Table 10-5. -/
def ResultCode.code : ResultCode → Nat
  | .ok => 0x00
  | .adjusted => 0x01
  | .unknownRequest => 0x10
  | .badLength => 0x11
  | .badValue => 0x12
  | .notDefined => 0x20
  | .alreadyDefined => 0x21
  | .busy => 0x22
  | .wrongState => 0x23
  | .wrongKind => 0x24
  | .conflict => 0x25
  | .wrongTool => 0x26
  | .late => 0x27
  | .empty => 0x28
  | .notReady => 0x29
  | .absent => 0x2A

/-- A pass class, 0xFF for none. -/
def classCode : Option (Fin 4) → Nat
  | some c => c.val
  | none => 0xFF

/-- The channel in a SENSOR_FAULT notice (R176). -/
def channelCode : Channel → Nat
  | .power => 0
  | .ae => 1

def flagCode (b : Bool) : Nat := if b then 1 else 0

end Sys2Proof.Machine
end

