-- ==== Sys2Proof/Machine/Flags.lean ====
section
/-! DEFINITION. Everything the part computes from its state and shows as a line or a flag: the hold reason sets, the HOLD
outputs, ATTENTION, and the summary byte. -/

namespace Sys2Proof.Machine

/-- The nine reasons for which a station is held, in the order of R112. -/
inductive HoldReason where
  | startup
  | forced
  | incident
  | sensor
  | noTool
  | swap
  | swapTimeout
  | halted
  | noSister
  deriving DecidableEq, Repr

/-- The reasons, in the order of R112's table. -/
def allReasons : List HoldReason :=
  [.startup, .forced, .incident, .sensor, .noTool, .swap, .swapTimeout, .halted, .noSister]

/-- A position of the station is in the given state. -/
def State.stationHas (s : State) (st : Fin 6) (x : PositionState) : Bool :=
  decide ((s.position (wheelPos st)).state = x) || decide ((s.position (dresserPos st)).state = x)

/-- A reason is present for a station (R112). -/
def State.holds (s : State) (st : Fin 6) : HoldReason → Bool
  | .startup => (s.flag st).startup
  | .forced => (s.flag st).forced
  | .incident => (s.incident st).isOpen
  | .sensor => (s.flag st).sensor
  | .noTool => decide ((s.position (wheelPos st)).state = .empty)
  | .swap => s.stationHas st .ordered
  | .swapTimeout => s.stationHas st .timedOut
  | .halted => s.stationHas st .halted
  | .noSister => s.stationHas st .waiting

/-- The hold reason set of a station; that of an absent station is empty (R112). -/
def State.holdReasons (s : State) (st : Fin 6) : List HoldReason :=
  if (s.config st).present then allReasons.filter (s.holds st) else []

/-- The station's HOLD output is asserted exactly when its hold reason set is non-empty (R112). -/
def State.holdOutput (s : State) (st : Fin 6) : Bool := !(s.holdReasons st).isEmpty

/-- The hold reason set as the 16-bit number of R178. -/
def State.holdReasonBits (s : State) (st : Fin 6) : Nat :=
  if (s.config st).present then
    flagCode (s.holds st .startup) + 2 * flagCode (s.holds st .forced) + 4 * flagCode (s.holds st .incident) +
    8 * flagCode (s.holds st .sensor) + 16 * flagCode (s.holds st .noTool) + 32 * flagCode (s.holds st .swap) +
    64 * flagCode (s.holds st .swapTimeout) + 128 * flagCode (s.holds st .halted) +
    256 * flagCode (s.holds st .noSister)
  else 0

/-- ATTENTION is driven low, asserted (R160). -/
def NoticeQueues.attention (q : NoticeQueues) : Bool :=
  (q.urgentEnable && !q.urgent.isEmpty) || (q.routineEnable && decide (q.level ≤ q.routine.length))

/-- The ATTENTION line is asserted (R160). -/
def State.attention (s : State) : Bool := s.notices.attention

/-- The summary byte, bit 7 first (R170, Table 10-4). -/
def State.summaryByte (s : State) : Byte :=
  BitVec.ofNat 8
    (128 * flagCode (!s.notices.urgent.isEmpty) + 64 * flagCode (!s.notices.routine.isEmpty) +
      32 * flagCode s.notices.urgentLost + 16 * flagCode s.notices.routineLost +
      8 * flagCode (allStations.any fun st => (s.config st).present && s.holdOutput st) +
      4 * flagCode (allStations.any fun st => (s.incident st).isOpen) +
      2 * flagCode (allStations.any fun st => (s.config st).present && (s.flag st).startup) +
      flagCode s.attention)

end Sys2Proof.Machine
end

