-- ==== Sys2Proof/Machine/Life.lean ====
section
/-! DEFINITION. The figures of a tool's life and the condition derived from them (Sections 1.3 and 4.1). -/

namespace Sys2Proof.Machine

/-- Limit units: the limit in passes times 1,024 (R70). -/
def Tool.limitUnits (t : Tool) : Nat := t.limit * 1024

/-- Warn units: floor(limit units × warn percent / 100) (R70). -/
def Tool.warnUnits (t : Tool) : Nat := t.limitUnits * t.warnPercent / 100

/-- Remaining passes (R71). -/
def Tool.remainingPasses (t : Tool) : Nat :=
  if t.used < t.limitUnits then (t.limitUnits - t.used) / 1024 else 0

/-- The overrun ceiling under a group's overrun percent, clamped to 32 bits (R72). -/
def Tool.overrunCeiling (t : Tool) (overrunPercent : Nat) : Nat :=
  min max32 (t.limitUnits + t.limitUnits * overrunPercent / 100)

/-- The wheel has less stock than one dress takes (R8, R76). -/
def Tool.shortOfStock (t : Tool) : Bool := decide (t.kind = .wheel) && decide (t.stock < t.dressDepth)

/-- The life condition (R8). -/
def Tool.lifeCondition (t : Tool) : Condition :=
  if t.limitUnits ≤ t.used ∨ t.shortOfStock = true then .spent
  else if t.warnUnits ≤ t.used then .warned
  else .sound

/-- The condition an ordinary recompute gives (R9). -/
def Tool.ordinaryCondition (t : Tool) : Condition :=
  match t.condition with
  | .sound => t.lifeCondition
  | .warned => t.lifeCondition
  | .spent => t.lifeCondition
  | .overrun => if t.lifeCondition = .spent then .overrun else t.lifeCondition
  | .broken => .broken
  | .withdrawn => .withdrawn

/-- SOUND or WARNED. -/
def Condition.serviceable : Condition → Bool
  | .sound => true
  | .warned => true
  | .spent => false
  | .overrun => false
  | .broken => false
  | .withdrawn => false

/-- A tool is eligible under a margin (R126). -/
def Tool.eligible (t : Tool) (margin : Nat) : Bool :=
  decide (t.placement = .store) && t.condition.serviceable && decide (margin ≤ t.remainingPasses)

/-- The group whose chain holds the tool, none for an ungrouped tool (R5). -/
def State.groupOf (s : State) (t : Tool) : Option Group := if t.group = 0 then none else s.group? t.group

/-- The tool is eligible in the group its group field names (R7). An ungrouped tool is not. -/
def State.eligibleNow (s : State) (t : Tool) : Bool :=
  match s.groupOf t with
  | some g => t.eligible g.margin
  | none => false

def Tallies.get (x : Tallies) : DetClass → Nat
  | .burst => x.burst
  | .underload => x.underload
  | .overload => x.overload
  | .contactLoss => x.contactLoss

/-- A tally rises by 1 and stays at 65,535 (R4). -/
def Tallies.bump (x : Tallies) : DetClass → Tallies
  | .burst => { x with burst := min 65535 (x.burst + 1) }
  | .underload => { x with underload := min 65535 (x.underload + 1) }
  | .overload => { x with overload := min 65535 (x.overload + 1) }
  | .contactLoss => { x with contactLoss := min 65535 (x.contactLoss + 1) }

/-- All four tallies 0 (R4). -/
def Tallies.zero : Tallies := ⟨0, 0, 0, 0⟩

def Responses.get (x : Responses) : DetClass → Response
  | .burst => x.burst
  | .underload => x.underload
  | .overload => x.overload
  | .contactLoss => x.contactLoss

/-- All four class references UNLEARNED (R3). -/
def refsCleared : Vector ClassRef 4 := Vector.replicate 4 ClassRef.cleared

end Sys2Proof.Machine
end

