-- ==== Sys2Proof/Machine/Selection.lean ====
section
/-! DEFINITION. The sister selector: the scan, the reservation, the selection for one position, the service of a waiting
list and the rescan (Chapter 7). -/

namespace Sys2Proof.Machine

/-- The chain indexes in the order a scan visits them (R127). -/
def Group.scanOrder (g : Group) : List Nat :=
  match g.policy with
  | .chain => List.range g.chain.length
  | .rotate => (List.range g.chain.length).map fun i => (g.cursor + 1 + i) % g.chain.length

/-- The member at a chain index is eligible (R126). -/
def State.eligibleAt (s : State) (g : Group) (i : Nat) : Bool :=
  match g.chain[i]? with
  | some n => match s.tool? n with
    | some t => t.eligible g.margin
    | none => false
  | none => false

/-- A scan: the index of the first eligible member visited, none when the group is exhausted (R127). -/
def State.scan (s : State) (g : Group) : Option Nat := g.scanOrder.find? (s.eligibleAt g)

/-- A position joins the tail of a waiting list, or keeps its place in it (R129, R130). -/
def Group.join (g : Group) (p : Fin 12) : Group :=
  if p ∈ g.waiting then g else { g with waiting := g.waiting ++ [p] }

/-- A position leaves a waiting list, and those behind it move up (R130). -/
def Group.leave (g : Group) (p : Fin 12) : Group := { g with waiting := g.waiting.filter (· ≠ p) }

/-- The position leaves its group's waiting list, if it is in it (R130). -/
def State.leaveWaiting (s : State) (p : Fin 12) : State :=
  match s.tool? (s.position p).active with
  | some t => s.modifyGroup t.group fun g => g.leave p
  | none => s

/-- The number of the member at a chain index, 0 past the chain. -/
def Group.memberAt (g : Group) (i : Nat) : Nat := g.chain.getD i 0

/-- The group after the member at an index has been chosen for a position: under ROTATE the cursor is at that member, and
the position is in the list no more (R127, R128). -/
def Group.chosen (g : Group) (i : Nat) (p : Fin 12) : Group :=
  { g.leave p with cursor := match g.policy with | .chain => g.cursor | .rotate => i }

/-- The scan of group `gno` has chosen the member at index `i` for position `p`: the member becomes RESERVED, with the
cursor in the same commit; the position goes ORDERED with its timer loaded; an urgent SWAP_ORDER notice is made (R127,
R128, R141). -/
def State.giveSister (s : State) (p : Fin 12) (gno : Nat) (g : Group) (i : Nat) : State :=
  let n := g.memberAt i
  let s := s.commit [s.oldTool n, s.oldGroup gno]
  let s := s.modifyTool n fun t => { t with placement := .reserved p }
  let s := s.setGroup gno (g.chosen i p)
  let outgoing := (s.position p).active
  let s := s.setPosition p ⟨.ordered, outgoing, n, (s.config (stationOf p)).swapTimeout * 1000⟩
  s.notify true .swapOrder (some (stationOf p)) (some (seatKind p)) outgoing n (s.tagOf n)

/-- The position goes to another state with its tool, no sister and a stopped timer. -/
def State.rest (s : State) (p : Fin 12) (x : PositionState) : State :=
  s.setPosition p ⟨x, (s.position p).active, 0, 0⟩

/-- The position goes WAITING with an urgent NO_SISTER notice (R128, R129, R132). -/
def State.waitFor (s : State) (p : Fin 12) (detailA : Nat) : State :=
  let s := s.rest p .waiting
  s.notify true .noSister (some (stationOf p)) (some (seatKind p)) (s.position p).active detailA 0

/-- A selection whose scan finds the group of the active tool `t` (number `n`) exhausted (R129). -/
def State.exhausted (s : State) (p : Fin 12) (n : Nat) (t : Tool) (g : Group) : State :=
  let s := s.modifyGroup t.group fun g => g.join p
  if (t.condition = .spent ∨ t.condition = .overrun) ∧ g.action = .runOn ∧
      t.used < t.overrunCeiling g.overrunPercent then
    let s := if t.condition = .overrun then s
      else (s.commit [s.oldTool n]).modifyTool n fun t => { t with condition := .overrun }
    let s := s.rest p .runOn
    s.notify false .runOn (some (stationOf p)) (some (seatKind p)) n (t.overrunCeiling g.overrunPercent) 0
  else s.waitFor p t.group

/-- A selection for one position (R128, R140). The manual runs selections only for positions that hold a tool. -/
def State.selection (s : State) (p : Fin 12) : State :=
  let n := (s.position p).active
  match s.tool? n with
  | none => s
  | some t =>
    match s.groupOf t with
    | none => s.waitFor p 0
    | some g =>
      match s.scan g with
      | some i => s.giveSister p t.group g i
      | none => s.exhausted p n t g

/-- The oldest WAITING position of a waiting list; RUN_ON positions are passed over (R131). -/
def State.oldestWaiting (s : State) (g : Group) : Option (Fin 12) :=
  g.waiting.find? fun p => decide ((s.position p).state = .waiting)

/-- The service of a waiting list, at most `fuel` times over (R131). -/
def State.serviceLoop (s : State) (gno : Nat) : Nat → State
  | 0 => s
  | fuel + 1 =>
    match s.group? gno with
    | none => s
    | some g =>
      match s.oldestWaiting g with
      | none => s
      | some p =>
        match s.scan g with
        | none => s
        | some i => (s.giveSister p gno g i).serviceLoop gno fuel

/-- An eligibility event for a group: its waiting list is served until it holds no WAITING position or the group is
exhausted (R131). Each turn takes one position off the list, so its length bounds the turns. -/
def State.eligibilityEvent (s : State) (gno : Nat) : State :=
  match s.group? gno with
  | none => s
  | some g => s.serviceLoop gno g.waiting.length

/-- The report of R7 for a tool that has just come to STORE or changed there: an eligibility event for its group if it is
eligible now. -/
def State.reportIfEligible (s : State) (n : Nat) : State :=
  match s.tool? n with
  | none => s
  | some t => if s.eligibleNow t then s.eligibilityEvent t.group else s

/-- The rescan of a RUN_ON position at a part end of its station (R132). -/
def State.rescan (s : State) (p : Fin 12) : State :=
  match s.tool? (s.position p).active with
  | none => s
  | some t =>
    match s.groupOf t with
    | none => s
    | some g =>
      match s.scan g with
      | some i => s.giveSister p t.group g i
      | none =>
        if g.action = .runOn ∧ t.used < t.overrunCeiling g.overrunPercent then s
        else s.waitFor p t.group

end Sys2Proof.Machine
end

