-- ==== Sys2Proof/Machine/Swap.lean ====
section
/-! DEFINITION. The swap controller's own moves: condition reports, part ends, the swap timer, and the rebuild of positions
(Chapter 8), with the void marks that a change of an active tool sets (R41, R42). -/

namespace Sys2Proof.Machine

/-- A position goes back to SERVING and leaves its waiting list (R137). -/
def State.backToServing (s : State) (p : Fin 12) : State := (s.leaveWaiting p).rest p .serving

/-- A tool has regained SOUND or WARNED: a DUE, WAITING or RUN_ON position serves again (R137). -/
def State.regained (s : State) (p : Fin 12) : State :=
  match (s.position p).state with
  | .due => s.backToServing p
  | .waiting => s.backToServing p
  | .runOn => s.backToServing p
  | .empty => s
  | .serving => s
  | .ordered => s
  | .timedOut => s
  | .halted => s

/-- The life accounting unit reports that the tool MOUNTED at a position has moved from one condition to another (R137). -/
def State.conditionReport (s : State) (p : Fin 12) (old new : Condition) : State :=
  match new with
  | .spent => if (s.position p).state = .serving then s.rest p .due else s
  | .broken =>
    match (s.position p).state with
    | .serving => s.selection p
    | .due => s.selection p
    | .waiting => s.selection p
    | .runOn => s.selection p
    | .empty => s
    | .ordered => s
    | .timedOut => s
    | .halted => s
  | .overrun => s
  | .withdrawn => s
  | .sound => if old = .spent ∨ old = .overrun then s.regained p else s
  | .warned => if old = .spent ∨ old = .overrun then s.regained p else s

/-- The hand-over of a condition change: a MOUNTED tool's position acts on it; a RESERVED or stored tool's does not (R11, R138). -/
def State.handOver (s : State) (placement : Placement) (old new : Condition) : State :=
  match placement with
  | .mounted p => s.conditionReport p old new
  | .reserved _ => s
  | .store => s

/-- What a part end does to one position: a DUE one goes to selection, a RUN_ON one is rescanned (R139). -/
def State.partEndAt (s : State) (p : Fin 12) : State :=
  match (s.position p).state with
  | .due => s.selection p
  | .runOn => s.rescan p
  | .empty => s
  | .serving => s
  | .ordered => s
  | .timedOut => s
  | .halted => s
  | .waiting => s

/-- A part end of a station: its wheel position first, then its dresser position (R139). -/
def State.partEnd (s : State) (st : Fin 6) : State := (s.partEndAt (wheelPos st)).partEndAt (dresserPos st)

/-- RESUME after a start-up sends a DUE position to selection, and only a DUE one (R114). -/
def State.resumeAt (s : State) (p : Fin 12) : State :=
  if (s.position p).state = .due then s.selection p else s

/-- The swap timer of an ORDERED position reaches 0 (R142). In every other state the timer is stopped and cannot expire. -/
def State.timerExpiry (s : State) (p : Fin 12) : State :=
  let x := s.position p
  if x.state = .ordered then
    let s := s.setPosition p ⟨.timedOut, x.active, x.sister, 0⟩
    s.notify true .swapTimeout (some (stationOf p)) (some (seatKind p)) x.active x.sister (s.tagOf x.sister)
  else s

/-- The void marks of an operation in progress after the active tool of a position of its station has changed: that of
the operation for the position it latched, that of the wheel's share for a wheel position during a dress (R41, R42). -/
def Monitor.toolChanged (m : Monitor) (k : Kind) : Monitor :=
  match m.state, k with
  | .pass, .wheel => { m with op := m.op.map fun l => { l with void := true } }
  | .dress, .dresser => { m with op := m.op.map fun l => { l with void := true } }
  | .dress, .wheel => { m with op := m.op.map fun l => { l with wheelVoid := true } }
  | _, _ => m

/-- The report of a change of a position's active tool to its station monitor (R136). -/
def State.reportToolChange (s : State) (p : Fin 12) : State :=
  s.modifyMonitor (stationOf p) fun m => m.toolChanged (seatKind p)

/-- At a wheel position a mount or a confirmation sets the AIR counter to 0 (R65, R134). -/
def State.clearAir (s : State) (p : Fin 12) : State :=
  match seatKind p with
  | .wheel => s.modifyMonitor (stationOf p) fun m => { m with air := 0 }
  | .dresser => s

/-- The tool MOUNTED at a position, by the tool table. -/
def State.mountedAt (s : State) (p : Fin 12) : Option (Nat × Tool) :=
  s.tools.find? fun e => decide (e.2.placement = .mounted p)

/-- A position as it is rebuilt from the placements (R150). -/
def State.rebuilt (s : State) (p : Fin 12) : Position :=
  match s.mountedAt p with
  | none => Position.vacant
  | some (n, t) => ⟨if t.condition.serviceable then .serving else .due, n, 0, 0⟩

/-- The tool RESERVED for a position, by the position record, returns to STORE with its condition (R7, R23). -/
def State.releaseSister (s : State) (p : Fin 12) : State :=
  let n := (s.position p).sister
  (s.commit [s.oldTool n]).modifyTool n fun t => { t with placement := .store }

end Sys2Proof.Machine
end

