-- ==== Sys2Proof/Machine/Conditions.lean ====
section
/-! DEFINITION. The recompute of a tool's condition with its hand-overs, and the charges that cause it (R9, R11, Chapter 4). -/

namespace Sys2Proof.Machine

/-- The station and position kind that a WARN or SPENT notice carries: those of a MOUNTED tool's position, else none (R79). -/
def Placement.seat : Placement → Option (Fin 6) × Option Kind
  | .mounted p => (some (stationOf p), some (seatKind p))
  | .reserved _ => (none, none)
  | .store => (none, none)

/-- The WARN or SPENT notice of an ordinary recompute that has moved the condition of tool `n` away from `old`; `t` is the
record after the move (R11, R79). -/
def State.crossingNotice (s : State) (n : Nat) (old : Condition) (t : Tool) : State :=
  if old = .sound ∧ t.condition = .warned then
    s.notify false .warn t.placement.seat.1 t.placement.seat.2 n t.used 0
  else if (old = .sound ∨ old = .warned) ∧ t.condition = .spent then
    if t.limitUnits ≤ t.used then s.notify false .spent t.placement.seat.1 t.placement.seat.2 n t.used 0
    else s.notify false .spent t.placement.seat.1 t.placement.seat.2 n t.stock 1
  else s

/-- An ordinary recompute of tool `n` with its notice and its hand-over to the swap controller (R9, R11). A condition that
does not change makes neither. -/
def State.recompute (s : State) (n : Nat) : State :=
  match s.tool? n with
  | none => s
  | some t =>
    if t.ordinaryCondition = t.condition then s
    else
      let u := { t with condition := t.ordinaryCondition }
      ((s.setTool n u).crossingNotice n t.condition u).handOver u.placement t.condition u.condition

/-- A stored tool that was not eligible before the event and is eligible now makes an eligibility event (R11, R15, R81). -/
def State.reportIfBecame (s : State) (n : Nat) (wasEligible : Bool) : State :=
  if wasEligible then s else s.reportIfEligible n

/-- A weight is added to the used count, which saturates, and an ordinary recompute follows (R56, R73, R74). -/
def State.charge (s : State) (n weight : Nat) : State :=
  (s.modifyTool n fun t => { t with used := satAdd32 t.used weight }).recompute n

/-- The tool becomes BROKEN, with the hand-over of its position; a tool already BROKEN stays as it is (R10, R97, R111). -/
def State.breakTool (s : State) (n : Nat) : State :=
  match s.tool? n with
  | none => s
  | some t =>
    if t.condition = .broken then s
    else (s.setTool n { t with condition := .broken }).handOver t.placement t.condition .broken

/-! ### The dress end (Section 4.3) -/

/-- The stroke weight of a dresser, from the depth latched of the wheel, if one was latched, and its own nominal depth (R77). -/
def strokeWeight (depth : Option Nat) (nominal : Nat) : Nat :=
  match depth with
  | some d => clamp 256 4096 (d * 1024 / nominal)
  | none => 1024

/-- The wheel's share of a dress: the latched depth comes off the stock, the dress count rises, and an ordinary recompute
follows, all as one commit of the record (R75). -/
def State.wheelShare (s : State) (n depth : Nat) : State :=
  ((s.commit [s.oldTool n]).modifyTool n fun t =>
    { t with stock := t.stock - depth, dressCount := satAdd32 t.dressCount 1 }).recompute n

/-- The dresser's share of a dress: the stroke weight and one dress, with an ordinary recompute (R77). -/
def State.dresserShare (s : State) (n weight : Nat) : State :=
  ((s.commit [s.oldTool n]).modifyTool n fun t =>
    { t with used := satAdd32 t.used weight, dressCount := satAdd32 t.dressCount 1 }).recompute n

/-- A dress end: the wheel's share first, unless no wheel was latched or its share is voided, then the dresser's (R37, R42,
R75, R77, R78). -/
def State.dressEnd (s : State) (l : Latched) : State :=
  let s := if l.wheel ≠ 0 ∧ l.wheelVoid = false then s.wheelShare l.wheel (l.depth.getD 0) else s
  s.dresserShare l.dresser (strokeWeight (if l.wheel = 0 then none else l.depth) (l.nominal.getD 0))

end Sys2Proof.Machine
end

