-- ==== Sys2Proof/Machine/Incidents.lean ====
section
/-! DEFINITION. The capture ring, the incident record, and the response to a detection (Chapters 5 and 6). -/

namespace Sys2Proof.Machine

/-! ### The capture ring (Section 6.4) -/

/-- The ring has 1,024 slots (R116). -/
def ringSlots : Nat := 1024

/-- The samples written after the trigger before the freeze (R117). -/
def postTriggerSamples : Nat := 256

/-- A FILLING capture whose post-trigger count has reached 256 becomes FROZEN (R117). -/
def Capture.freeze (c : Capture) : Capture :=
  if c.state = .filling ∧ postTriggerSamples ≤ c.post then { c with state := .frozen } else c

/-- The write fills the trigger's own slot: the trigger sample itself was not written before (R117). -/
def Capture.writesTrigger (c : Capture) : Bool := decide (c.trigger = some c.next) && decide (c.post = 0)

/-- The write of one sample pair, with the post-trigger count but without the freeze (R116, R117). Nothing is written while
the capture is FROZEN. -/
def Capture.store (c : Capture) (pair : Code × Code) : Capture :=
  if c.state = .frozen then c
  else
    { c with
      samples := (pair :: c.samples).take ringSlots
      next := (c.next + 1) % ringSlots
      post := if c.state = .filling ∧ c.writesTrigger = false then c.post + 1 else c.post }

/-- The capture's step at one sample: the write, and the freeze at the write that makes the count 256 (R116, R117). -/
def Capture.write (c : Capture) (pair : Code × Code) : Capture := (c.store pair).freeze

/-- An incident opening puts the capture in FILLING with the detection's trigger (R117). -/
def Capture.fill (c : Capture) (trigger : Nat) : Capture := { c with state := .filling, trigger := some trigger, post := 0 }

/-- A close by VERDICT: the state NONE, the trigger none and the count 0, with the samples kept (R109, R118). -/
def Capture.release (c : Capture) : Capture := { c with state := .none, trigger := none, post := 0 }

/-- The age-order index of the trigger sample (R119). -/
def Capture.triggerIndex (c : Capture) : Nat :=
  match c.trigger with
  | some slot => (slot + ringSlots + c.samples.length - c.next) % ringSlots
  | none => 0

/-! ### Detections (Section 5.1) -/

/-- A detection as it is handed to the incident and hold unit (R86). The position is the station's of the position kind. -/
structure Detection where
  station : Fin 6
  posKind : Kind
  tool : Nat
  cls : DetClass
  value : Nat
  passClass : Option (Fin 4)
  trigger : Nat
  deriving DecidableEq, Repr

/-- The default responses, for a tool in no group (R93). -/
def defaultResponse : DetClass → Response
  | .burst => .suspend
  | .underload => .suspend
  | .overload => .report
  | .contactLoss => .suspend

/-- The response booked for a detection, by the tool's group as it stands (R93). -/
def State.responseTo (s : State) (d : Detection) : Response :=
  match s.tool? d.tool with
  | none => defaultResponse d.cls
  | some t =>
    match s.groupOf t with
    | some g => g.responses.get d.cls
    | none => defaultResponse d.cls

/-- An incident opens: the record, the urgent INCIDENT notice, and the capture FILLING (R106). -/
def State.openIncident (s : State) (d : Detection) (r : Response) : State :=
  let s := s.setIncident d.station
    ⟨true, some d.cls, some r, d.tool, some d.posKind, d.passClass, d.value, s.clock, 0, false⟩
  let s := s.notify true .incident (some d.station) (some d.posKind) d.tool d.value (d.cls.code * 256 + r.code)
  s.setCapture d.station ((s.capture d.station).fill d.trigger)

/-- A repeat of an open incident (R107). -/
def Incident.repeated (i : Incident) (tool : Nat) : Incident :=
  { i with repeats := min 255 (i.repeats + 1), otherTool := i.otherTool || decide (tool ≠ i.tool) }

/-- The booked response is carried out at a station with no open incident (R95, R96, R97). -/
def State.respond (s : State) (d : Detection) : State :=
  match s.responseTo d with
  | .ignore => s
  | .report =>
    s.notify false .detection (some d.station) (some d.posKind) d.tool d.value (d.cls.code * 256 + classCode d.passClass)
  | .suspend => s.openIncident d .suspend
  | .condemn => (s.openIncident d .condemn).breakTool d.tool

/-- The incident and hold unit takes a detection: the tally first, then a repeat of the open incident or the booked
response (R94). -/
def State.takeDetection (s : State) (d : Detection) : State :=
  let s := s.modifyTool d.tool fun t => { t with tallies := t.tallies.bump d.cls }
  if (s.incident d.station).isOpen then s.setIncident d.station ((s.incident d.station).repeated d.tool)
  else s.respond d

/-- A close by VERDICT: the record keeps its other fields, and the capture is released (R105, R109, R118). -/
def State.closeIncident (s : State) (st : Fin 6) : State :=
  (s.setIncident st { s.incident st with isOpen := false }).setCapture st (s.capture st).release

end Sys2Proof.Machine
end

