-- ==== Sys2Proof/Machine/PassEnd.lean ====
section
/-! DEFINITION. The pass end: the seven stages of the judgement (Chapter 3). -/

namespace Sys2Proof.Machine

/-- The six outcomes of a pass (R50). -/
inductive PassOutcome where
  | unjudged
  | air
  | learning
  | underload
  | overload
  | good
  deriving DecidableEq, Repr

/-- The ratio r, clamped to 0 to 65,535 (R53). -/
def passRatio (energy reference : Nat) : Nat := min 65535 (energy * 1024 / reference)

/-- The first test of R50's table that holds gives the outcome. -/
def passOutcome (mark : Bool) (energy eMin : Nat) (ref : ClassRef) (lowBound highBound : Nat) : PassOutcome :=
  if mark then .unjudged
  else if energy < eMin then .air
  else if ref.state ≠ .learned then .learning
  else if passRatio energy ref.value < lowBound then .underload
  else if highBound < passRatio energy ref.value then .overload
  else .good

/-- The weight of a pass, none for AIR (R55). -/
def passWeight (o : PassOutcome) (r : Nat) : Option Nat :=
  match o with
  | .unjudged => some 1024
  | .learning => some 1024
  | .air => none
  | .good => some (clamp 256 4096 r)
  | .underload => some (clamp 256 4096 r)
  | .overload => some (clamp 256 4096 r)

/-- The learning step of a class reference: n and the sum rise, and the run completes when n reaches the latched L (R57, R58). -/
def ClassRef.learn (x : ClassRef) (energy learnCount : Nat) : ClassRef :=
  let n := x.n + 1
  let sum := x.sum + energy
  if learnCount ≤ n then ⟨.learned, n, sum, sum / n⟩ else ⟨.learning, n, sum, x.value⟩

/-- The smoothing step: the reference moves toward the energy by the difference divided by 2^k, truncated toward zero (R62). -/
def ClassRef.smooth (x : ClassRef) (energy shift : Nat) : ClassRef :=
  { x with value := ((x.value : Int) + ((energy : Int) - (x.value : Int)).tdiv (2 ^ shift)).toNat }

/-- What a pass end carries from the monitor (R36). -/
structure PassEnd where
  wheel : Nat
  passClass : Fin 4
  energy : Nat
  mark : Bool
  eMin : Nat
  judge : JudgeParams
  index : Nat
  deriving DecidableEq, Repr

/-- The outcome of a pass end against the wheel's record as it stands (R50). -/
def PassEnd.outcome (e : PassEnd) (t : Tool) : PassOutcome :=
  passOutcome e.mark e.energy e.eMin t.refs[e.passClass] e.judge.lowBound e.judge.highBound

/-- The ratio of a pass end against the wheel's record as it stands (R53). -/
def PassEnd.ratio (e : PassEnd) (t : Tool) : Nat := passRatio e.energy t.refs[e.passClass].value

/-- Stage 3: the learning step of a LEARNING pass, with the LEARNED notice of a completed run (R57, R58). -/
def State.learnStep (s : State) (st : Fin 6) (e : PassEnd) (t : Tool) : State :=
  let x := t.refs[e.passClass].learn e.energy e.judge.learnCount
  let s := s.setTool e.wheel { t with refs := t.refs.set e.passClass x }
  if x.state = .learned then
    s.notify false .learned (some st) (some .wheel) e.wheel x.value e.passClass.val
  else s

/-- Stage 4: the smoothing step of a GOOD pass (R62). -/
def State.smoothStep (s : State) (e : PassEnd) (t : Tool) : State :=
  s.setTool e.wheel { t with refs := t.refs.set e.passClass (t.refs[e.passClass].smooth e.energy e.judge.shift) }

/-- Stages 3 and 4, both withheld at a station whose incident is open (R59, R63). -/
def State.moveReference (s : State) (st : Fin 6) (e : PassEnd) (t : Tool) : State :=
  if (s.incident st).isOpen then s
  else match e.outcome t with
    | .learning => s.learnStep st e t
    | .good => s.smoothStep e t
    | .unjudged => s
    | .air => s
    | .underload => s
    | .overload => s

/-- Stage 5: the AIR counter is stepped by an AIR pass, to 0 when it reaches the air limit, and set to 0 by every other (R64). -/
def State.stepAir (s : State) (st : Fin 6) (o : PassOutcome) : State :=
  s.modifyMonitor st fun m =>
    { m with air := if o = .air ∧ m.air + 1 < (s.config st).airLimit then m.air + 1 else 0 }

/-- The detection that stages 5 and 6 raise, if any: its class and value (R64, R66). `air` is the AIR counter before the
pass. -/
def passDetection (o : PassOutcome) (r air airLimit : Nat) : Option (DetClass × Nat) :=
  match o with
  | .air => if airLimit ≤ air + 1 then some (.contactLoss, air + 1) else none
  | .underload => some (.underload, r)
  | .overload => some (.overload, r)
  | .unjudged => none
  | .learning => none
  | .good => none

/-- Stage 6: the detection is handed to the incident and hold unit (R66). -/
def State.raiseAtPassEnd (s : State) (st : Fin 6) (e : PassEnd) (found : Option (DetClass × Nat)) : State :=
  match found with
  | some (cls, value) => s.takeDetection ⟨st, .wheel, e.wheel, cls, value, some e.passClass, e.index⟩
  | none => s

/-- Stage 7: the weight is added, unless the pass was AIR (R56, R73). -/
def State.chargePass (s : State) (n : Nat) (weight : Option Nat) : State :=
  match weight with
  | some w => s.charge n w
  | none => s

/-- The pass end, taken as one event on the wheel's record with one commit of it (R48, R49). -/
def State.passEnd (s : State) (st : Fin 6) (e : PassEnd) : State :=
  match s.tool? e.wheel with
  | none => s
  | some t =>
    let o := e.outcome t
    let r := e.ratio t
    let found := passDetection o r (s.monitor st).air (s.config st).airLimit
    let s := s.commit [s.oldTool e.wheel]
    let s := s.moveReference st e t
    let s := s.stepAir st o
    let s := s.raiseAtPassEnd st e found
    s.chargePass e.wheel (passWeight o r)

end Sys2Proof.Machine
end

