-- ==== Sys2Proof/Machine/StationMonitor.lean ====
section
/-! DEFINITION. The station monitor: the line filter, the operations, the burst check, the stuck check, and the sample
event (Chapter 2, R86 to R104). -/

namespace Sys2Proof.Machine

/-! ### The line filter (R25, R26) -/

/-- The filtered level of one line after a sample: the raw level when it differs for the second sample in a row. -/
def filterLine (filtered differing raw : Bool) : Bool := if differing then raw else filtered

/-- Whether the line differs at this sample for the first time in a row. -/
def differs (filtered differing raw : Bool) : Bool := !differing && (raw != filtered)

/-- The filtered levels after a sample with these raw levels (R25). -/
def Monitor.filteredNext (m : Monitor) (raw : Lines) : Lines where
  pass := filterLine m.filtered.pass m.differing.pass raw.pass
  dress := filterLine m.filtered.dress m.differing.dress raw.dress
  partEnd := filterLine m.filtered.partEnd m.differing.partEnd raw.partEnd
  class1 := filterLine m.filtered.class1 m.differing.class1 raw.class1
  class0 := filterLine m.filtered.class0 m.differing.class0 raw.class0

/-- The lines that differ at this sample alone so far (R25). -/
def Monitor.differingNext (m : Monitor) (raw : Lines) : Lines where
  pass := differs m.filtered.pass m.differing.pass raw.pass
  dress := differs m.filtered.dress m.differing.dress raw.dress
  partEnd := differs m.filtered.partEnd m.differing.partEnd raw.partEnd
  class1 := differs m.filtered.class1 m.differing.class1 raw.class1
  class0 := differs m.filtered.class0 m.differing.class0 raw.class0

/-- The filter's step at a sample; the starting sample sets all five levels (R25, R26). -/
def Monitor.filterStep (m : Monitor) (raw : Lines) : Monitor :=
  if m.primed then { m with filtered := m.filteredNext raw, differing := m.differingNext raw }
  else { m with filtered := raw, differing := Lines.low, primed := true }

/-- The rises and falls of one sample that the monitor takes (R25, R27). -/
structure Edges where
  passFall : Bool
  dressFall : Bool
  partRise : Bool
  passRise : Bool
  dressRise : Bool
  deriving DecidableEq, Repr

/-- The rises and falls of a sample; the starting sample makes none (R26). -/
def Monitor.edges (m : Monitor) (raw : Lines) : Edges :=
  if m.primed then
    let n := m.filteredNext raw
    { passFall := m.filtered.pass && !n.pass
      dressFall := m.filtered.dress && !n.dress
      partRise := !m.filtered.partEnd && n.partEnd
      passRise := !m.filtered.pass && n.pass
      dressRise := !m.filtered.dress && n.dress }
  else ⟨false, false, false, false, false⟩

/-! ### Operations (Sections 2.3 and 2.4) -/

/-- The operation is not one that R41 ignores: its latched position was not EMPTY at its start. -/
def Latched.live (l : Latched) : Bool :=
  match l.kind with
  | .pass => decide (l.wheel ≠ 0)
  | .dress => decide (l.dresser ≠ 0)

/-- The tool whose operation it is: the wheel of a pass, the dresser of a dress. -/
def Latched.tool (l : Latched) : Nat :=
  match l.kind with
  | .pass => l.wheel
  | .dress => l.dresser

/-- The position kind of the operation's tool. -/
def Latched.posKind (l : Latched) : Kind :=
  match l.kind with
  | .pass => .wheel
  | .dress => .dresser

/-- The class read from CLASS1 and CLASS0 (R33). -/
def classOf (x : Lines) : Fin 4 :=
  match x.class1, x.class0 with
  | false, false => 0
  | false, true => 1
  | true, false => 2
  | true, true => 3

def Tool.check (t : Tool) : CheckParams := ⟨t.threshold, t.persistence⟩

def Tool.judge (t : Tool) : JudgeParams := ⟨t.learnCount, t.shift, t.lowBound, t.highBound⟩

/-- What the rise of PASS latches (R33). -/
def State.latchPass (s : State) (st : Fin 6) : Latched :=
  let wheel := (s.position (wheelPos st)).active
  { kind := .pass
    passClass := some (classOf (s.monitor st).filtered)
    wheel := wheel
    dresser := 0
    eMin := (s.config st).eMin
    blank := (s.config st).blank
    staleWindow := (s.config st).staleWindow
    check := (s.tool? wheel).map Tool.check
    judge := (s.tool? wheel).map Tool.judge
    depth := none
    nominal := none
    void := false
    wheelVoid := false }

/-- What the rise of DRESS latches (R34). -/
def State.latchDress (s : State) (st : Fin 6) : Latched :=
  let wheel := (s.position (wheelPos st)).active
  let dresser := (s.position (dresserPos st)).active
  { kind := .dress
    passClass := none
    wheel := wheel
    dresser := dresser
    eMin := 0
    blank := (s.config st).blank
    staleWindow := (s.config st).staleWindow
    check := (s.tool? dresser).map Tool.check
    judge := none
    depth := (s.tool? wheel).map Tool.dressDepth
    nominal := (s.tool? dresser).map Tool.nominalDepth
    void := false
    wheelVoid := false }

/-- An operation starts: its latched record is set, the accumulator, the mark, the sample count and the burst check are
zeroed, and the blanking counter is loaded (R29, R30, R33, R34, R87). -/
def Monitor.start (m : Monitor) (x : MonitorState) (l : Latched) : Monitor :=
  { m with
    state := x
    op := some l
    energy := 0
    powerFaultMark := false
    sampleCount := 0
    blanking := l.blank
    burstCounter := 0
    runPeak := 0
    burstDone := false }

def State.startPass (s : State) (st : Fin 6) : State := s.modifyMonitor st fun m => m.start .pass (s.latchPass st)

def State.startDress (s : State) (st : Fin 6) : State := s.modifyMonitor st fun m => m.start .dress (s.latchDress st)

/-- The monitor goes to another state. -/
def State.monitorTo (s : State) (st : Fin 6) (x : MonitorState) : State := s.modifyMonitor st fun m => { m with state := x }

/-- The pass end a monitor hands on for a pass that latched the record (R36). -/
def Monitor.passEndOf (m : Monitor) (l : Latched) : PassEnd where
  wheel := l.wheel
  passClass := l.passClass.getD 0
  energy := m.energy
  mark := m.powerFaultMark
  eMin := l.eMin
  judge := l.judge.getD ⟨0, 0, 0, 0⟩
  index := m.lastIndex

/-- End processing of the operation in progress: a live operation whose void mark is clear is handed to the life
accounting unit; an ignored or void one is discarded (R36, R37, R41). -/
def State.endProcessing (s : State) (st : Fin 6) : State :=
  let m := s.monitor st
  match m.op with
  | none => s
  | some l =>
    if l.live = true ∧ l.void = false then
      match l.kind with
      | .pass => s.passEnd st (m.passEndOf l)
      | .dress => s.dressEnd l
    else s

/-- The operation ends and the monitor goes to another state (R36, R37, R40). -/
def State.finish (s : State) (st : Fin 6) (x : MonitorState) : State := (s.monitorTo st x).endProcessing st

/-- PASS and DRESS are both high: the operation in progress is discarded, the monitor goes to CONFLICT, and a routine
SIGNAL_CONFLICT notice names it (R35, R38). -/
def State.signalConflict (s : State) (st : Fin 6) (discarded : Option OpKind) : State :=
  let s := s.monitorTo st .conflict
  match discarded, (s.monitor st).op with
  | some k, some l =>
    s.notify false .signalConflict (some st) (if l.tool = 0 then none else some l.posKind) l.tool 0 (k.code + 1)
  | some k, none => s.notify false .signalConflict (some st) none 0 0 (k.code + 1)
  | none, _ => s.notify false .signalConflict (some st) none 0 0 0

/-! ### The events of one sample, in the order of R27 -/

/-- Step 1: a fall of PASS or of DRESS. -/
def State.takeFalls (s : State) (st : Fin 6) (e : Edges) : State :=
  match (s.monitor st).state with
  | .pass => if e.passFall then s.finish st .idle else s
  | .dress => if e.dressFall then s.finish st .idle else s
  | .off => s
  | .settling => s
  | .idle => s
  | .conflict => s

/-- Step 2: a rise of PART_END, a part end. An operation in progress ends first (R40). -/
def State.takePartEnd (s : State) (st : Fin 6) (e : Edges) : State :=
  if e.partRise then
    match (s.monitor st).state with
    | .pass => (s.finish st .settling).partEnd st
    | .dress => (s.finish st .settling).partEnd st
    | .settling => s.partEnd st
    | .idle => s.partEnd st
    | .conflict => s.partEnd st
    | .off => s
  else s

/-- Step 3: the both-low test of SETTLING and CONFLICT (R32, R39). -/
def State.bothLowTest (s : State) (st : Fin 6) : State :=
  let m := s.monitor st
  if (m.state = .settling ∨ m.state = .conflict) ∧ m.filtered.pass = false ∧ m.filtered.dress = false then
    s.monitorTo st .idle
  else s

/-- Step 4: a rise of PASS or of DRESS (R33, R34, R35, R38). -/
def State.takeRises (s : State) (st : Fin 6) (e : Edges) : State :=
  match (s.monitor st).state with
  | .idle =>
    match e.passRise, e.dressRise with
    | true, true => s.signalConflict st none
    | true, false => s.startPass st
    | false, true => s.startDress st
    | false, false => s
  | .pass => if e.dressRise then s.signalConflict st (some .pass) else s
  | .dress => if e.passRise then s.signalConflict st (some .dress) else s
  | .off => s
  | .settling => s
  | .conflict => s

/-! ### The burst check (Section 5.2) -/

/-- One AE code given to the burst check, when it takes codes at all (R88). -/
def Monitor.burstCheck (m : Monitor) (l : Latched) (code : Code) : Monitor :=
  if l.void = true ∨ m.ae.fault = true ∨ m.burstDone = true then m
  else if (l.check.getD ⟨0, 0⟩).threshold < code.toNat then
    { m with
      burstCounter := m.burstCounter + 1
      runPeak := if m.burstCounter = 0 then code.toNat else max m.runPeak code.toNat }
  else { m with burstCounter := 0, runPeak := 0 }

/-- The monitor is in PASS or DRESS. -/
def Monitor.operating (m : Monitor) : Bool := decide (m.state = .pass) || decide (m.state = .dress)

/-- The live operation whose burst counter has reached N, if there is one that still takes codes (R88, R89). -/
def Monitor.burstReached (m : Monitor) : Option Latched :=
  match m.op, m.operating with
  | some l, true =>
    match l.check with
    | some c =>
      if l.live = true ∧ l.void = false ∧ m.ae.fault = false ∧ m.burstDone = false ∧ 0 < m.burstCounter ∧
          c.persistence ≤ m.burstCounter then some l
      else none
    | none => none
  | _, _ => none

/-- The BURST detection of a station's operation (R89). -/
def Monitor.burstDetection (m : Monitor) (st : Fin 6) (l : Latched) : Detection :=
  ⟨st, l.posKind, l.tool, .burst, m.runPeak, l.passClass, m.lastIndex⟩

/-- The burst counter has reached N: the burst-done mark is set, the run is zeroed, and the detection is handed to the
incident and hold unit, with one commit of the tool's record (R89, R98). Without that, nothing happens. -/
def State.takeBurst (s : State) (st : Fin 6) : State :=
  let m := s.monitor st
  match m.burstReached with
  | none => s
  | some l =>
    let s := s.setMonitor st { m with burstDone := true, burstCounter := 0, runPeak := 0 }
    let s := s.commit [s.oldTool l.tool]
    s.takeDetection (m.burstDetection st l)

/-! ### The stuck check (Section 5.5) -/

/-- One code given to the stuck check of a channel (R100). -/
def ChannelState.check (x : ChannelState) (code : Code) : ChannelState :=
  if x.fault then x
  else
    match x.previous with
    | none => { x with previous := some code }
    | some p => if code = p then { x with stuck := x.stuck + 1 } else { x with stuck := 0, previous := some code }

/-- The channel as it is after its fault flag has latched (R100). -/
def ChannelState.latched : ChannelState := ⟨none, 0, true⟩

def Monitor.channel (m : Monitor) : Channel → ChannelState
  | .power => m.power
  | .ae => m.ae

/-- A code is given to the stuck check of a channel. -/
def Monitor.stuckCheck (m : Monitor) (c : Channel) (code : Code) : Monitor :=
  match c with
  | .power => { m with power := m.power.check code }
  | .ae => { m with ae := m.ae.check code }

/-- The code on which a channel is found stuck, if its counter has reached the stale window of the operation (R100). -/
def Monitor.stuckOn (m : Monitor) (c : Channel) : Option Code :=
  match m.op, m.operating with
  | some l, true =>
    if (m.channel c).fault = false ∧ 0 < (m.channel c).stuck ∧ l.staleWindow ≤ (m.channel c).stuck then
      (m.channel c).previous
    else none
  | _, _ => none

/-- A channel fault flag latches. The AE latch ends the run of the burst check (R90), and the power latch sets the
power-fault mark of a pass (R30, R90). -/
def Monitor.latchFault (m : Monitor) (c : Channel) : Monitor :=
  match c with
  | .power =>
    { m with
      power := ChannelState.latched
      powerFaultMark := if m.state = .pass then true else m.powerFaultMark }
  | .ae => { m with ae := ChannelState.latched, burstCounter := 0, runPeak := 0 }

/-- The stuck counter of a channel has reached the stale window: the flag latches and the fault is handed on under the
station's sensor fault action (R100, R101). Without that, nothing happens. -/
def State.takeChannelFault (s : State) (st : Fin 6) (c : Channel) : State :=
  let m := s.monitor st
  match m.stuckOn c with
  | none => s
  | some code =>
    let s := s.setMonitor st (m.latchFault c)
    match (s.config st).action with
    | .hold =>
      (s.setFlag st { s.flag st with sensor := true }).notify true .sensorFault (some st) none 0 code.toNat (channelCode c)
    | .degrade => s.notify false .sensorFault (some st) none 0 code.toNat (channelCode c)

/-- The last sample of the operation in progress gave its codes to the stuck check: the operation is not ignored, and its
samples are past the blanked first B (R29, R41, R99). A stuck counter above 0 is then one that this sample's code has
increased, since a code that differs sets it to 0 (R100). -/
def Monitor.stuckChecked (m : Monitor) : Bool :=
  match m.op with
  | some l => m.operating && l.live && decide (l.blank < m.sampleCount)
  | none => false

/-- CHANNEL_FAULT_LATCH by itself latches only after an increase: where the last sample was given to the stuck check (R100,
log entry 8). -/
def State.channelFaultLatch (s : State) (st : Fin 6) (c : Channel) : State :=
  if (s.monitor st).stuckChecked then s.takeChannelFault st c else s

/-! ### The work of one sample (R28, R90) -/

/-- The sample count and the blanking counter are stepped, and the ring index of the sample is kept (R29, R30, R36). -/
def Monitor.count (m : Monitor) (index : Nat) : Monitor :=
  { m with sampleCount := satAdd32 m.sampleCount 1, blanking := m.blanking - 1, lastIndex := index }

/-- The energy step of a pass: the code is added unless the power channel is faulted (R30). -/
def Monitor.addEnergy (m : Monitor) (code : Code) : Monitor :=
  if m.power.fault then m else { m with energy := satAdd32 m.energy code.toNat }

/-- The power-fault mark is set while the power channel fault flag is latched (R30). -/
def Monitor.markFault (m : Monitor) : Monitor := if m.power.fault then { m with powerFaultMark := true } else m

/-- The sample pair is written to the station's capture ring (R116). -/
def State.captureWrite (s : State) (st : Fin 6) (pair : Code × Code) : State :=
  s.setCapture st ((s.capture st).write pair)

/-- The burst check of one sample, with the detection it may raise (R88, R89). -/
def State.burstStage (s : State) (st : Fin 6) (l : Latched) (ae : Code) : State :=
  (s.modifyMonitor st fun m => m.burstCheck l ae).takeBurst st

/-- The stuck check of one sample: the power channel, then the AE channel (R100, R101). -/
def State.stuckStage (s : State) (st : Fin 6) (power ae : Code) : State :=
  let s := (s.modifyMonitor st fun m => m.stuckCheck .power power).takeChannelFault st .power
  (s.modifyMonitor st fun m => m.stuckCheck .ae ae).takeChannelFault st .ae

/-- The work of one sample of a PASS or DRESS: the ring, the counters, the burst check, the energy step, the stuck check
and the power-fault mark (R28, R29, R30, R90). An ignored operation takes neither check nor energy (R41). -/
def State.operationWork (s : State) (st : Fin 6) (l : Latched) (power ae : Code) : State :=
  let checked : Bool := l.live && decide ((s.monitor st).blanking = 0)
  let isPass : Bool := decide (l.kind = .pass)
  let index := (s.capture st).next
  let s := s.captureWrite st (power, ae)
  let s := s.modifyMonitor st fun m => m.count index
  let s := if checked then s.burstStage st l ae else s
  let s := if isPass && l.live then s.modifyMonitor st fun m => m.addEnergy power else s
  let s := if checked then s.stuckStage st power ae else s
  if isPass then s.modifyMonitor st Monitor.markFault else s

/-- Step 5 of R27: the work of the sample in the state the monitor is then in (R28). -/
def State.sampleWork (s : State) (st : Fin 6) (power ae : Code) : State :=
  match (s.monitor st).state with
  | .off => s
  | .settling => s.captureWrite st (power, ae)
  | .idle => s.captureWrite st (power, ae)
  | .conflict => s.captureWrite st (power, ae)
  | .pass =>
    match (s.monitor st).op with
    | some l => s.operationWork st l power ae
    | none => s.captureWrite st (power, ae)
  | .dress =>
    match (s.monitor st).op with
    | some l => s.operationWork st l power ae
    | none => s.captureWrite st (power, ae)

/-- One sample event of a station: the filter, then the five steps of R27. A monitor in OFF takes none (R26, R28). -/
def State.takeSample (s : State) (st : Fin 6) (power ae : Code) (raw : Lines) : State :=
  if (s.monitor st).state = .off then s
  else
    let e := (s.monitor st).edges raw
    let s := s.modifyMonitor st fun m => m.filterStep raw
    let s := s.takeFalls st e
    let s := s.takePartEnd st e
    let s := s.bothLowTest st
    let s := s.takeRises st e
    s.sampleWork st power ae

end Sys2Proof.Machine
end

