-- ==== Sys2Proof/Machine/Resets.lean ====
section
/-! DEFINITION. The resets of the blocks: power-on, the supervisor-wide reset, the reset of one station, and power failure
(R22, R31, R115, R150, R162, R173). -/

namespace Sys2Proof.Machine

/-- The line rate of the rate straps, high and low (R164). -/
def rateOf : Strap → Strap → LineRate
  | .opened, .opened => .baud19200
  | .opened, .closed => .baud38400
  | .closed, .opened => .baud115200
  | .closed, .closed => .baud230400

/-- An open strap is read as 1 (R164). -/
def strapBit : Strap → Nat
  | .opened => 1
  | .closed => 0

/-- The node address of the four address straps (R164). -/
def nodeAddress (x : Straps) : Nat :=
  8 * strapBit x.address3 + 4 * strapBit x.address2 + 2 * strapBit x.address1 + strapBit x.address0

/-- The port after power-on: HUNT, with the address and the rate read from the straps (R164, R166). -/
def LinkPort.poweredOn (x : Straps) : LinkPort :=
  ⟨nodeAddress x, rateOf x.rateHigh x.rateLow, .hunt, [], 0, none, false⟩

/-- The port after RESET_SUPERVISOR: any partial frame discarded, HUNT, the address and the rate kept (R164, R166, R173). -/
def LinkPort.supervisorReset (x : LinkPort) : LinkPort :=
  { x with state := .hunt, buffer := [], gap := 0, resetPending := false }

/-- A RESERVED tool returns to STORE; every other tool stays where it is (R23). -/
def Tool.released (t : Tool) : Tool :=
  match t.placement with
  | .reserved _ => { t with placement := .store }
  | .store => t
  | .mounted _ => t

/-- The monitor of a station after a reset: SETTLING when present, OFF when absent (R31). -/
def freshMonitor (present : Bool) : Monitor := Monitor.fresh (if present then .settling else .off)

/-- The state of a tool record is RESERVED. -/
def Tool.isReserved (t : Tool) : Bool :=
  match t.placement with
  | .reserved _ => true
  | .store => false
  | .mounted _ => false

/-- One commit for each tool that a reset releases (R22, R23). -/
def State.commitReleases (s : State) : State :=
  s.withJournal (((s.tools.filter fun e => e.2.isReserved).map fun e => [RetainedWrite.tool e.1 (some e.2)]) ++ s.journal)

/-- The volatile state of every block but the link port as at power-on, in the order R150 asks for: the reserved tools go to
STORE and the waiting lists are emptied before the positions are rebuilt. The tables, the cursors and the configuration
records are kept (R23, R31, R44, R105, R113, R133, R150, R155, R162). -/
def State.resetBlocks (s : State) : State :=
  let s := s.commitReleases
  let s := s.withTools (tableMap Tool.released s.tools)
  let s := s.withGroups (tableMap (fun g => { g with waiting := [] }) s.groups)
  let s := s.withMonitors (perStation fun st => freshMonitor (s.config st).present)
  let s := s.withCaptures (perStation fun _ => Capture.empty)
  let s := s.withIncidents (perStation fun _ => Incident.cleared)
  let s := s.withFlags (perStation fun st => { StationFlags.clear with startup := (s.config st).present })
  let s := s.withPositions (perPosition s.rebuilt)
  let s := s.withNotices NoticeQueues.fresh
  s.withClock 0

/-- Power-on (R31, R162, R164, R166). -/
def State.takePowerOn (s : State) (x : Straps) : State :=
  ((s.beginEvent.withPowered true).resetBlocks).withLink (LinkPort.poweredOn x)

/-- The reset of RESET_SUPERVISOR, taken when its reply has been sent (R173). -/
def State.takeSupervisorReset (s : State) : State := s.resetBlocks.withLink s.link.supervisorReset

/-- Power fails: the newest `unfinished` commits of the event just taken had not completed, so the records they wrote hold
none of their changes, and the records of the older commits hold all of theirs (R22, R78). -/
def State.takePowerFail (s : State) (unfinished : Nat) : State :=
  ((s.undoCommits unfinished s.journal).withJournal []).withPowered false

/-- The position leaves every waiting list (R115, R151). -/
def State.leaveAll (s : State) (p : Fin 12) : State := s.withGroups (tableMap (fun g => g.leave p) s.groups)

/-- The release of the tool RESERVED for a position, if the position has one (R23). -/
def State.releaseAt (s : State) (p : Fin 12) : State :=
  if (s.position p).sister = 0 then s else s.releaseSister p

/-- The monitor and the capture ring of a station are reset (R31, R116). -/
def State.resetMonitor (s : State) (st : Fin 6) (present : Bool) : State :=
  (s.setMonitor st (freshMonitor present)).setCapture st Capture.empty

/-- RESET_STATION of a present station, in the four steps of R115. Where both positions have a sister, the wheel position's is
released and reported first: R23, R115, R133 and R151 give no order, and this one is the model's (log entry 20). -/
def State.takeStationReset (s : State) (st : Fin 6) : State :=
  let w := wheelPos st
  let d := dresserPos st
  let wheelSister := (s.position w).sister
  let dresserSister := (s.position d).sister
  let s := s.resetMonitor st true
  let s := s.setIncident st Incident.cleared
  let s := s.setFlag st ⟨true, false, false⟩
  let s := (s.leaveAll w).leaveAll d
  let s := (s.releaseAt w).releaseAt d
  let s := s.setPosition w (s.rebuilt w)
  let s := s.setPosition d (s.rebuilt d)
  let s := if wheelSister = 0 then s else s.reportIfEligible wheelSister
  if dresserSister = 0 then s else s.reportIfEligible dresserSister

end Sys2Proof.Machine
end

