-- ==== Sys2Proof/Machine/Answer.lean ====
section
/-! DEFINITION. How a request is answered: the summary byte of the state before it, the work of its owning block, and the
reply (R12, R169, R170, R171), with the bodies of the five requests that return one (R175 to R179). -/

namespace Sys2Proof.Machine

/-- What an owning block makes of a request: the state after its work, the result code and the reply body. -/
structure Answer where
  state : State
  result : ResultCode
  body : List Byte

/-- A refused request changes nothing and has an empty body (R171). -/
def State.refuse (s : State) (r : ResultCode) : Answer := ⟨s, r, []⟩

/-- A taken request with an empty body (R171). -/
def State.accept (s : State) (r : ResultCode) : Answer := ⟨s, r, []⟩

/-- The port while a request is at its owning block: EXECUTE, with the frame taken (R168). -/
def LinkPort.executing (x : LinkPort) : LinkPort := { x with state := .execute, buffer := [], gap := 0 }

/-- The port sends the reply: it is in REPLY, and the request's frame is no longer held (R169). -/
def LinkPort.sending (x : LinkPort) (r : Reply) : LinkPort :=
  { x with state := .reply, buffer := [], gap := 0, reply := some r }

/-- A request is taken: the port goes to EXECUTE, the summary byte is formed, the owning block does its work, and the reply
goes out (R168, R169). -/
def State.serve (s : State) (work : State → Answer) : State :=
  let a := work (s.beginEvent.withLink s.link.executing)
  a.state.withLink (a.state.link.sending ⟨s.summaryByte, a.result, a.body⟩)

/-- The part as it answers one request; without power it takes nothing (log entry 6). -/
def State.request (s : State) (work : State → Answer) : State := if s.powered then s.serve work else s

/-- The reply frame of Table 10-2: the node address plus 0x80, the body length, the summary byte, the result code, the
body and the CRC (R165, R167). -/
def LinkPort.replyFrame (x : LinkPort) : Option (List Byte) :=
  x.reply.map fun r =>
    sealed (BitVec.ofNat 8 (x.address + 0x80) :: BitVec.ofNat 8 r.body.length :: r.summary ::
      BitVec.ofNat 8 r.result.code :: r.body)

/-! ### READ_TOOL (R175, Table 10-6) -/

def ClassRef.bytes (x : ClassRef) : List Byte := be 1 x.state.code ++ be 1 x.n ++ be 5 x.sum ++ be 4 x.value

def Tallies.bytes (x : Tallies) : List Byte := be 2 x.burst ++ be 2 x.underload ++ be 2 x.overload ++ be 2 x.contactLoss

def Tool.bytes (t : Tool) (n : Nat) : List Byte :=
  be 1 n ++ be 1 t.kind.code ++ be 2 t.tag ++ be 1 t.group ++ be 1 t.placement.code ++ be 1 t.placement.positionCode ++
  be 1 t.condition.code ++ be 4 t.limit ++ be 1 t.warnPercent ++ be 4 t.used ++ be 2 t.threshold ++ be 1 t.persistence ++
  be 1 t.learnCount ++ be 1 t.shift ++ be 2 t.lowBound ++ be 2 t.highBound ++ be 2 t.stock ++ be 1 t.dressDepth ++
  be 1 t.nominalDepth ++ be 4 t.dressCount ++ t.tallies.bytes ++
  t.refs[0].bytes ++ t.refs[1].bytes ++ t.refs[2].bytes ++ t.refs[3].bytes ++
  be 4 t.limitUnits ++ be 4 t.warnUnits ++ be 4 t.remainingPasses

/-! ### READ_GROUP (R179, Table 10-10) -/

/-- A list of bytes brought to a length with a fill byte. -/
def padTo (len : Nat) (fill : Byte) (bytes : List Byte) : List Byte := bytes ++ List.replicate (len - bytes.length) fill

def State.waitingBytes (s : State) (p : Fin 12) : List Byte := be 1 p.val ++ be 1 (s.position p).state.code

def State.memberBytes (s : State) (g : Group) (n : Nat) : List Byte :=
  match s.tool? n with
  | some t =>
    be 1 t.placement.code ++ be 1 t.placement.positionCode ++ be 1 t.condition.code ++ be 4 t.remainingPasses ++
    be 1 (flagCode (t.eligible g.margin))
  | none => List.replicate 8 0

def State.groupBytes (s : State) (n : Nat) (g : Group) : List Byte :=
  be 1 n ++ be 1 g.kind.code ++ be 1 g.chain.length ++ padTo 8 0 (g.chain.flatMap (be 1)) ++ be 1 g.policy.code ++
  be 1 g.cursor ++ be 4 g.margin ++ be 1 g.action.code ++ be 1 g.overrunPercent ++
  be 1 g.responses.burst.code ++ be 1 g.responses.underload.code ++ be 1 g.responses.overload.code ++
  be 1 g.responses.contactLoss.code ++ be 1 g.waiting.length ++ padTo 24 0xFF (g.waiting.flatMap s.waitingBytes) ++
  padTo 64 0 (g.chain.flatMap (s.memberBytes g))

/-! ### READ_STATION (R178, Table 10-9) -/

def linesBits (x : Lines) : Nat :=
  16 * flagCode x.pass + 8 * flagCode x.dress + 4 * flagCode x.partEnd + 2 * flagCode x.class1 + flagCode x.class0

/-- Latched fields from the body offset `at'` on: their bytes, or free values when they belong to the operation's kind and
were not latched (log entry 2), or 0 when they belong to the other kind (R47). -/
def latchedBytes (belongs : Bool) (at' len : Nat) : Option (List Byte) → List Byte
  | some bytes => bytes
  | none => if belongs then (List.range len).map fun i => Config.unlatchedByte (at' + i) else List.replicate len 0

/-- Bytes 15 to 37: the latched record of the operation (R47, R178). -/
def opBytes : Option Latched → List Byte
  | none => 0xFF :: 0xFF :: List.replicate 21 0
  | some l =>
    be 1 l.kind.code ++ be 1 (classCode l.passClass) ++ be 1 l.wheel ++ be 1 l.dresser ++ be 4 l.eMin ++ be 1 l.blank ++
    be 2 l.staleWindow ++
    latchedBytes true 26 3 (l.check.map fun c => be 2 c.threshold ++ be 1 c.persistence) ++
    latchedBytes (l.kind == .pass) 29 6
      (l.judge.map fun j => be 1 j.learnCount ++ be 1 j.shift ++ be 2 j.lowBound ++ be 2 j.highBound) ++
    latchedBytes (l.kind == .dress) 35 1 (l.depth.map (be 1)) ++
    latchedBytes (l.kind == .dress) 36 1 (l.nominal.map (be 1)) ++
    be 1 (2 * flagCode l.void + flagCode l.wheelVoid)

/-- Bytes 53 to 66: the incident record (R105, R178). -/
def Incident.bytes (i : Incident) : List Byte :=
  be 1 (flagCode i.isOpen) ++ be 1 ((i.cls.map DetClass.code).getD 0) ++ be 1 ((i.response.map Response.code).getD 0) ++
  be 1 i.tool ++ be 1 ((i.posKind.map Kind.code).getD 0) ++ be 1 (classCode i.passClass) ++ be 2 i.value ++ be 4 i.time ++
  be 1 i.repeats ++ be 1 (flagCode i.otherTool)

def Position.bytes (x : Position) : List Byte :=
  be 1 x.state.code ++ be 1 x.active ++ be 1 x.sister ++ be 4 x.timer

def StationConfig.bytes (c : StationConfig) : List Byte :=
  be 1 (flagCode c.present) ++ be 4 c.eMin ++ be 1 c.blank ++ be 1 c.airLimit ++ be 2 c.staleWindow ++
  be 1 c.action.code ++ be 2 c.swapTimeout

def Monitor.counterBytes (m : Monitor) : List Byte :=
  be 4 m.energy ++ be 1 (flagCode m.powerFaultMark) ++ be 4 m.sampleCount ++ be 1 m.blanking ++ be 1 m.burstCounter ++
  be 1 (2 * flagCode m.power.fault + flagCode m.ae.fault) ++ be 1 m.air

def State.stationBytes (s : State) (st : Fin 6) : List Byte :=
  be 1 st.val ++ (s.config st).bytes ++ be 1 (s.monitor st).state.code ++ be 1 (linesBits (s.monitor st).filtered) ++
  opBytes (s.monitor st).op ++ (s.monitor st).counterBytes ++ be 2 (s.holdReasonBits st) ++ (s.incident st).bytes ++
  be 1 (s.capture st).state.code ++ be 2 (s.capture st).samples.length ++
  (s.position (wheelPos st)).bytes ++ (s.position (dresserPos st)).bytes

/-! ### FETCH_NOTICE (R176, Table 10-7) -/

def Notice.bytes (n : Notice) : List Byte :=
  be 1 n.kind.code ++ be 1 ((n.station.map Fin.val).getD 0xFF) ++ be 1 ((n.posKind.map Kind.code).getD 0xFF) ++
  be 1 n.tool ++ be 2 n.tag ++ be 4 n.detailA ++ be 2 n.detailB ++ be 4 n.time

/-- The body of a fetched notice, with the queues as they stand after the removal (R159). -/
def NoticeQueues.fetchBytes (q : NoticeQueues) (routine : Bool) (n : Notice) : List Byte :=
  be 1 (flagCode routine) ++ be 1 q.urgent.length ++ be 1 q.routine.length ++
  be 1 (2 * flagCode q.urgentLost + flagCode q.routineLost) ++ n.bytes

/-! ### READ_CAPTURE (R177, Table 10-8) -/

/-- One sample pair in three bytes, the power code in the upper twelve bits. -/
def captureEntry (pair : Code × Code) : List Byte := be 3 (pair.1.toNat * 4096 + pair.2.toNat)

/-- A frozen ring read in age order from a start index, up to 64 pairs (R119). -/
def Capture.entriesFrom (c : Capture) (start : Nat) : List (Code × Code) := (c.samples.reverse.drop start).take 64

def Capture.readBytes (c : Capture) (start : Nat) : List Byte :=
  be 2 c.samples.length ++ be 2 c.triggerIndex ++ be 1 (c.entriesFrom start).length ++
  (c.entriesFrom start).flatMap captureEntry

end Sys2Proof.Machine
end

