-- ==== Sys2Proof/Machine/GroupRequests.lean ====
section
/-! DEFINITION. The three group requests of the sister selector (Section 7.2) and CLEAR_TABLES (R24, R174). -/

namespace Sys2Proof.Machine

/-- The carried responses, none when one is outside the enumeration (R122, R172). -/
def responsesArg (onBurst onUnderload onOverload onContactLoss : Nat) : Option Responses :=
  match responseArg onBurst, responseArg onUnderload, responseArg onOverload, responseArg onContactLoss with
  | some a, some b, some c, some d => some ⟨a, b, c, d⟩
  | _, _, _, _ => none

/-- The carried chain: its first `chainLength` numbers, none when the length or a number is out of range or a number
appears twice (R122, R172). -/
def chainArg (chainLength : Nat) (chain : List Nat) : Option (List Nat) :=
  let c := chain.take chainLength
  if 1 ≤ chainLength ∧ chainLength ≤ 8 ∧ c.all isToolNumber = true ∧ c.Nodup then some c else none

/-- The members of a defined group that a new chain drops (R122). -/
def Group.dropped (g : Group) (chain : List Nat) : List Nat := g.chain.filter (· ∉ chain)

/-- The tool is the active tool of a position in the waiting list (R122). -/
def State.waitsFor (s : State) (g : Group) (n : Nat) : Bool :=
  g.waiting.any fun p => decide ((s.position p).active = n)

/-- The tool is RESERVED. -/
def State.toolReserved (s : State) (n : Nat) : Bool :=
  match s.tool? n with
  | some t => t.isReserved
  | none => false

/-- Checks 2 to 5 of R122, in their order: the result that refuses the request, none when it is taken. -/
def State.refuseGroup (s : State) (group : Nat) (kind : Kind) (chain : List Nat) : Option ResultCode :=
  if chain.any (fun n => (s.tool? n).isNone) then some .notDefined
  else if chain.any (fun n => match s.tool? n with | some t => decide (t.kind ≠ kind) | none => false) then some .wrongKind
  else if chain.any (fun n => match s.tool? n with
      | some t => decide (t.group ≠ 0) && decide (t.group ≠ group)
      | none => false) then some .conflict
  else
    match s.group? group with
    | none => none
    | some g =>
      if (g.dropped chain).any (fun n => s.toolReserved n || s.waitsFor g n) then some .busy else none

/-- The member of a chain was an eligible member of the group before (R123). -/
def State.wasEligibleMember (s : State) (group : Nat) (n : Nat) : Bool :=
  match s.group? group, s.tool? n with
  | some g, some t => decide (n ∈ g.chain) && t.eligible g.margin
  | _, _ => false

/-- Sets the group field of the tools of a list (R5). -/
def State.setGroupField (s : State) (value : Nat) (tools : List Nat) : State :=
  tools.foldl (fun s n => s.modifyTool n fun t => { t with group := value }) s

/-- The tool is MOUNTED at a WAITING position that is in no waiting list: a position whose selection found the tool
ungrouped (R123, R128). The tool is one that the request adds to the chain. -/
def State.waitingSeat (s : State) (n : Nat) : Option (Fin 12) :=
  allPositions.find? fun p => decide ((s.position p).active = n) && decide ((s.position p).state = .waiting) &&
    !(s.groups.any fun e => decide (p ∈ e.2.waiting))

/-- The positions that a request puts at the tail of the list, in chain order (R123). -/
def State.seatsAdded (s : State) (added : List Nat) : List (Fin 12) := added.filterMap s.waitingSeat

/-- The request makes a member eligible: one that is eligible in the new record and was not an eligible member before (R123). -/
def State.makesEligible (before after : State) (group : Nat) (g : Group) : Bool :=
  g.chain.any fun n =>
    (match after.tool? n with | some t => t.eligible g.margin | none => false) && !before.wasEligibleMember group n

/-- What a taken DEFINE_GROUP writes: the record with cursor 0 and the kept waiting list, and the group fields, in one
commit; then the WAITING positions its chain brings in; then one service of the list if anything calls for it (R123). -/
def State.writeGroup (s : State) (group : Nat) (record : Group) : State :=
  let oldChain := match s.group? group with | some g => g.chain | none => []
  let oldWaiting := match s.group? group with | some g => g.waiting | none => []
  let dropped := oldChain.filter (· ∉ record.chain)
  let added := record.chain.filter (· ∉ oldChain)
  let seats := s.seatsAdded added
  let record := { record with waiting := oldWaiting ++ seats }
  let before := s
  let s := s.commit (s.oldGroup group :: (dropped ++ record.chain).map s.oldTool)
  let s := s.setGroup group record
  let s := s.setGroupField 0 dropped
  let s := s.setGroupField group record.chain
  if before.makesEligible s group record || !seats.isEmpty then s.eligibilityEvent group else s

/-- DEFINE_GROUP (R122, R123). -/
def State.defineGroup (s : State) (group kind chainLength : Nat) (chain : List Nat) (policy margin action overrunPercent
    onBurst onUnderload onOverload onContactLoss : Nat) : Answer :=
  match isGroupNumber group, kindArg kind, chainArg chainLength chain, policyArg policy, exhaustionArg action,
    responsesArg onBurst onUnderload onOverload onContactLoss with
  | true, some k, some c, some p, some a, some r =>
    match s.refuseGroup group k c with
    | some result => s.refuse result
    | none =>
      let m := setting 0 100000 margin
      let o := setting 0 50 overrunPercent
      (s.writeGroup group ⟨k, c, p, 0, m.value, a, o.value, r, []⟩).accept (taken (m.clamped || o.clamped))
  | _, _, _, _, _, _ => s.refuse .badValue

/-- READ_GROUP (R124, R179). -/
def State.readGroup (s : State) (group : Nat) : Answer :=
  if isGroupNumber group then
    match s.group? group with
    | none => s.refuse .notDefined
    | some g => ⟨s, .ok, s.groupBytes group g⟩
  else s.refuse .badValue

/-- DELETE_GROUP (R125). -/
def State.deleteGroup (s : State) (group : Nat) : Answer :=
  if isGroupNumber group then
    match s.group? group with
    | none => s.refuse .notDefined
    | some g =>
      if !g.waiting.isEmpty || g.chain.any s.toolReserved then s.refuse .busy
      else
        let s := s.commit (s.oldGroup group :: g.chain.map s.oldTool)
        ((s.setGroupField 0 g.chain).eraseGroup group).accept .ok
  else s.refuse .badValue

/-- CLEAR_TABLES: both tables become undefined in one commit, and every incident's tool field becomes 0 (R24, R174). -/
def State.clearTables (s : State) : Answer :=
  if s.tools.any fun e => decide (e.2.placement ≠ .store) then s.refuse .busy
  else
    let s := s.commit [.tables s.tools s.groups]
    let s := (s.withTools []).withGroups []
    (s.withIncidents (perStation fun st => { s.incident st with tool := 0 })).accept .ok

/-! ### The commands -/

def execDefineGroup (group kind chainLength : Nat) (chain : List Nat) (policy margin action overrunPercent onBurst
    onUnderload onOverload onContactLoss : Nat) (s : State) : Host.Outcome State Fault Refusal :=
  .next (s.request fun s => s.defineGroup group kind chainLength chain policy margin action overrunPercent onBurst
    onUnderload onOverload onContactLoss)

def execReadGroup (group : Nat) (s : State) : Host.Outcome State Fault Refusal :=
  .next (s.request fun s => s.readGroup group)

def execDeleteGroup (group : Nat) (s : State) : Host.Outcome State Fault Refusal :=
  .next (s.request fun s => s.deleteGroup group)

def execClearTables (s : State) : Host.Outcome State Fault Refusal :=
  .next (s.request State.clearTables)

end Sys2Proof.Machine
end

