-- ==== Sys2Proof/Machine/NoticeRequests.lean ====
section
/-! DEFINITION. The two requests of the notice queues, FETCH_NOTICE and SET_ATTENTION (Chapter 9), and the request part of
RESET_SUPERVISOR (R173). -/

namespace Sys2Proof.Machine

/-- The block after the removal of the oldest urgent notice: the count rises to at most 4, is 0 when the urgent queue is
left empty, and the emptied queue's lost flag is cleared (R157, R158). -/
def NoticeQueues.afterUrgent (q : NoticeQueues) (rest : List Notice) : NoticeQueues :=
  { q with
    urgent := rest
    urgentLost := if rest.isEmpty then false else q.urgentLost
    count := if rest.isEmpty then 0 else min 4 (q.count + 1) }

/-- The block after the removal of the oldest routine notice: the count is 0, and the emptied queue's lost flag is
cleared (R157, R158). -/
def NoticeQueues.afterRoutine (q : NoticeQueues) (rest : List Notice) : NoticeQueues :=
  { q with
    routine := rest
    routineLost := if rest.isEmpty then false else q.routineLost
    count := 0 }

/-- The notice a fetch returns, with whether it is routine, and the block after its removal; none when both queues are
empty (R158). -/
def NoticeQueues.fetch (q : NoticeQueues) : Option (Bool × Notice × NoticeQueues) :=
  match q.urgent, q.routine with
  | [], [] => none
  | n :: rest, [] => some (false, n, q.afterUrgent rest)
  | [], n :: rest => some (true, n, q.afterRoutine rest)
  | n :: rest, m :: rest' =>
    if q.count = 4 then some (true, m, q.afterRoutine rest') else some (false, n, q.afterUrgent rest)

/-- FETCH_NOTICE (R158, R159, R176). A result EMPTY changes nothing (R171): the count stands at 0, where the fetch that
emptied the urgent queue has left it. -/
def State.fetchNotice (s : State) : Answer :=
  match s.notices.fetch with
  | none => s.refuse .empty
  | some (routine, n, q) => ⟨s.withNotices q, .ok, q.fetchBytes routine n⟩

/-- SET_ATTENTION (R161). -/
def State.setAttention (s : State) (urgentEnable routineEnable level : Nat) : Answer :=
  match enableArg urgentEnable, enableArg routineEnable with
  | some u, some r =>
    (s.withNotices { s.notices with urgentEnable := u, routineEnable := r, level := (levelSetting level).value }).accept
      (taken (levelSetting level).clamped)
  | _, _ => s.refuse .badValue

/-- RESET_SUPERVISOR is answered OK; its reset is taken when the reply has been sent (R173). -/
def State.askSupervisorReset (s : State) : Answer := (s.withLink { s.link with resetPending := true }).accept .ok

/-! ### The commands -/

def execFetchNotice (s : State) : Host.Outcome State Fault Refusal := .next (s.request State.fetchNotice)

def execSetAttention (urgentEnable routineEnable level : Nat) (s : State) : Host.Outcome State Fault Refusal :=
  .next (s.request fun s => s.setAttention urgentEnable routineEnable level)

def execResetSupervisor (s : State) : Host.Outcome State Fault Refusal := .next (s.request State.askSupervisorReset)

end Sys2Proof.Machine
end

