-- ==== Sys2Proof/Machine/StationRequests.lean ====
section
/-! DEFINITION. The requests about one station: SET_STATION and READ_STATION (Section 2.5), VERDICT, HOLD, RESUME and
RESET_STATION (Chapter 6), CLEAR_FAULT (R103) and READ_CAPTURE (R119). -/

namespace Sys2Proof.Machine

/-- The work of a request that names a present station: BAD_VALUE for a number above 5, ABSENT for an absent station. -/
def State.atStation (s : State) (station : Nat) (work : Fin 6 → Answer) : Answer :=
  match stationArg station with
  | none => s.refuse .badValue
  | some st => if (s.config st).present then work st else s.refuse .absent

/-! ### SET_STATION and READ_STATION -/

/-- The configuration record that SET_STATION writes, and whether a value was clamped (R44, R45). -/
def newConfig (present : Bool) (eMin blank airLimit staleWindow : Nat) (action : FaultAction) (swapTimeout : Nat) :
    StationConfig × Bool :=
  let e := setting 1 1048575 eMin
  let b := setting 0 255 blank
  let a := setting 1 15 airLimit
  let w := setting 200 10000 staleWindow
  let t := setting 10 3600 swapTimeout
  (⟨present, e.value, b.value, a.value, w.value, action, t.value⟩,
   e.clamped || b.clamped || a.clamped || w.clamped || t.clamped)

/-- The station is made present: the monitor goes to SETTLING with a fresh working state, and STARTUP is set (R46). -/
def State.makePresent (s : State) (st : Fin 6) : State :=
  let s := s.resetMonitor st true
  s.setFlag st { s.flag st with startup := true }

/-- The station is made absent: the monitor goes to OFF, any open incident is closed without verdict, and the flags are
cleared (R46, R105, R109). -/
def State.makeAbsent (s : State) (st : Fin 6) : State :=
  ((s.resetMonitor st false).setIncident st Incident.cleared).setFlag st StationFlags.clear

/-- What the present field of SET_STATION moves (R46). -/
def State.movePresence (s : State) (st : Fin 6) (was is : Bool) : State :=
  match was, is with
  | false, true => s.makePresent st
  | true, false => s.makeAbsent st
  | true, true => s
  | false, false => s

/-- SET_STATION (R45). -/
def State.setStation (s : State) (station present eMin blank airLimit staleWindow action swapTimeout : Nat) : Answer :=
  match stationArg station, presentArg present, faultActionArg action with
  | some st, some p, some a =>
    if p = false ∧ ((s.position (wheelPos st)).state ≠ .empty ∨ (s.position (dresserPos st)).state ≠ .empty) then
      s.refuse .busy
    else
      let new := newConfig p eMin blank airLimit staleWindow a swapTimeout
      let was := (s.config st).present
      let s := (s.commit [.config st (s.config st)]).setConfig st new.1
      (s.movePresence st was p).accept (taken new.2)
  | _, _, _ => s.refuse .badValue

/-- READ_STATION: taken for present and absent stations (R47, R178). -/
def State.readStation (s : State) (station : Nat) : Answer :=
  match stationArg station with
  | none => s.refuse .badValue
  | some st => ⟨s, .ok, s.stationBytes st⟩

/-! ### VERDICT (R110, R111) -/

/-- A VERDICT of BROKEN on a SUSPEND incident makes the incident's tool BROKEN first (R111). -/
def State.condemnByVerdict (s : State) (i : Incident) (broken : Bool) : State :=
  if broken = true ∧ i.response = some .suspend ∧ i.tool ≠ 0 then
    (s.commit [s.oldTool i.tool]).breakTool i.tool
  else s

def State.verdict (s : State) (station judged : Nat) : Answer :=
  match stationArg station, verdictArg judged with
  | some st, some broken =>
    if (s.config st).present = false then s.refuse .absent
    else if (s.incident st).isOpen = false then s.refuse .wrongState
    else if (s.incident st).response = some .condemn ∧ broken = false then s.refuse .wrongState
    else ((s.condemnByVerdict (s.incident st) broken).closeIncident st).accept .ok
  | _, _ => s.refuse .badValue

/-! ### HOLD, RESUME, CLEAR_FAULT, RESET_STATION, READ_CAPTURE -/

/-- HOLD sets FORCED (R114). -/
def State.holdStation (s : State) (station : Nat) : Answer :=
  s.atStation station fun st => (s.setFlag st { s.flag st with forced := true }).accept .ok

/-- RESUME clears FORCED and STARTUP, and sends the DUE positions to selection if STARTUP was set (R114). -/
def State.resumeStation (s : State) (station : Nat) : Answer :=
  s.atStation station fun st =>
    let was := (s.flag st).startup
    let s := s.setFlag st { s.flag st with forced := false, startup := false }
    (if was then (s.resumeAt (wheelPos st)).resumeAt (dresserPos st) else s).accept .ok

/-- CLEAR_FAULT clears both channels' flags and stuck checks, and the SENSOR flag (R103). -/
def State.clearFault (s : State) (station : Nat) : Answer :=
  s.atStation station fun st =>
    let s := s.modifyMonitor st fun m => { m with power := ChannelState.fresh, ae := ChannelState.fresh }
    (s.setFlag st { s.flag st with sensor := false }).accept .ok

/-- RESET_STATION (R115). -/
def State.resetStation (s : State) (station : Nat) : Answer :=
  s.atStation station fun st => (s.takeStationReset st).accept .ok

/-- READ_CAPTURE: NOT_READY unless the capture is FROZEN (R119, R177). -/
def State.readCapture (s : State) (station start : Nat) : Answer :=
  s.atStation station fun st =>
    if (s.capture st).state = .frozen then ⟨s, .ok, (s.capture st).readBytes start⟩ else s.refuse .notReady

/-! ### The commands -/

def execSetStation (station present eMin blank airLimit staleWindow action swapTimeout : Nat) (s : State) :
    Host.Outcome State Fault Refusal :=
  .next (s.request fun s => s.setStation station present eMin blank airLimit staleWindow action swapTimeout)

def execReadStation (station : Nat) (s : State) : Host.Outcome State Fault Refusal :=
  .next (s.request fun s => s.readStation station)

def execVerdict (station judged : Nat) (s : State) : Host.Outcome State Fault Refusal :=
  .next (s.request fun s => s.verdict station judged)

def execHold (station : Nat) (s : State) : Host.Outcome State Fault Refusal :=
  .next (s.request fun s => s.holdStation station)

def execResume (station : Nat) (s : State) : Host.Outcome State Fault Refusal :=
  .next (s.request fun s => s.resumeStation station)

def execClearFault (station : Nat) (s : State) : Host.Outcome State Fault Refusal :=
  .next (s.request fun s => s.clearFault station)

def execResetStation (station : Nat) (s : State) : Host.Outcome State Fault Refusal :=
  .next (s.request fun s => s.resetStation station)

def execReadCapture (station start : Nat) (s : State) : Host.Outcome State Fault Refusal :=
  .next (s.request fun s => s.readCapture station start)

end Sys2Proof.Machine
end

