-- ==== Sys2Proof/Machine/SwapRequests.lean ====
section
/-! DEFINITION. The five requests of the swap controller (Sections 8.5 and 8.6). -/

namespace Sys2Proof.Machine

/-- The work of a request that names a position of a present station: BAD_VALUE for a number above 11, ABSENT for a
position of an absent station (R134). -/
def State.atPosition (s : State) (position : Nat) (work : Fin 12 → Answer) : Answer :=
  match positionArg position with
  | none => s.refuse .badValue
  | some p => if (s.config (stationOf p)).present then work p else s.refuse .absent

/-- A tool is moved (R6, R7). -/
def State.place (s : State) (n : Nat) (x : Placement) : State := s.modifyTool n fun t => { t with placement := x }

/-! ### MOUNT and DISMOUNT -/

/-- The checks 3 to 7 of R148, in their order. -/
def State.refuseMount (s : State) (p : Fin 12) (tool : Nat) : Option ResultCode :=
  match s.tool? tool with
  | none => some .notDefined
  | some t =>
    if (s.position p).state ≠ .empty then some .busy
    else if t.kind ≠ seatKind p then some .wrongKind
    else if t.placement ≠ .store then some .busy
    else if t.condition.serviceable = false then some .wrongState
    else none

/-- A taken MOUNT (R148). -/
def State.takeMount (s : State) (p : Fin 12) (tool : Nat) : State :=
  let s := (s.commit [s.oldTool tool]).place tool (.mounted p)
  let s := s.setPosition p ⟨.serving, tool, 0, 0⟩
  (s.reportToolChange p).clearAir p

/-- MOUNT (R148). -/
def State.mount (s : State) (position tool : Nat) : Answer :=
  if isToolNumber tool then
    s.atPosition position fun p =>
      match s.refuseMount p tool with
      | some r => s.refuse r
      | none => (s.takeMount p tool).accept .ok
  else s.refuse .badValue

/-- A taken DISMOUNT, in the four steps of R149. -/
def State.takeDismount (s : State) (p : Fin 12) : State :=
  let n := (s.position p).active
  let s := s.leaveWaiting p
  let s := (s.commit [s.oldTool n]).place n .store
  let s := (s.setPosition p Position.vacant).reportToolChange p
  s.reportIfEligible n

/-- DISMOUNT (R149). -/
def State.dismount (s : State) (position : Nat) : Answer :=
  s.atPosition position fun p =>
    match (s.position p).state with
    | .ordered => s.refuse .busy
    | .timedOut => s.refuse .busy
    | .empty => s.refuse .wrongState
    | .serving => (s.takeDismount p).accept .ok
    | .due => (s.takeDismount p).accept .ok
    | .waiting => (s.takeDismount p).accept .ok
    | .runOn => (s.takeDismount p).accept .ok
    | .halted => (s.takeDismount p).accept .ok

/-! ### CONFIRM_SWAP -/

/-- The tool is an eligible member of the group whose chain holds the reserved sister (R143, step 6). -/
def State.isSubstitute (s : State) (sister tool : Nat) : Bool :=
  match s.tool? sister with
  | none => false
  | some x =>
    match s.groupOf x with
    | none => false
    | some g =>
      decide (tool ∈ g.chain) &&
        (match s.tool? tool with | some u => u.eligible g.margin | none => false)

/-- The tool that a confirmation mounts is BROKEN (R144, step 6). -/
def State.isBroken (s : State) (n : Nat) : Bool :=
  match s.tool? n with
  | some t => decide (t.condition = .broken)
  | none => false

/-- Steps 1 to 3 and the notice of a taken CONFIRM_SWAP that mounts tool `u`: the timer stops, the outgoing tool goes to
STORE, an unused reserved sister too, and `u` is MOUNTED, all in one commit; the change is reported to the monitor and
the AIR counter cleared; the position goes SERVING; a routine SWAP_DONE notice is made (R144, R145). A BROKEN sister's
position is sent to selection after that. -/
def State.exchange (s : State) (p : Fin 12) (u : Nat) : State :=
  let x := s.position p
  let s := s.commit [s.oldTool x.active, s.oldTool x.sister, s.oldTool u]
  let s := ((s.place x.active .store).place x.sister .store).place u (.mounted p)
  let s := s.setPosition p ⟨.serving, u, 0, 0⟩
  let s := (s.reportToolChange p).clearAir p
  s.notify false .swapDone (some (stationOf p)) (some (seatKind p)) u x.active (flagCode (decide (u ≠ x.sister)))

/-- A taken confirmation that names the reserved sister (R144). -/
def State.confirmSister (s : State) (p : Fin 12) : State :=
  let x := s.position p
  let s := s.exchange p x.sister
  let s := if s.isBroken x.sister then s.selection p else s
  s.reportIfEligible x.active

/-- A taken confirmation that names a substitute (R145). -/
def State.confirmSubstitute (s : State) (p : Fin 12) (u : Nat) : State :=
  let x := s.position p
  ((s.exchange p u).reportIfEligible x.active).reportIfEligible x.sister

/-- CONFIRM_SWAP (R143). -/
def State.confirmSwap (s : State) (position tool : Nat) : Answer :=
  if isToolNumber tool then
    s.atPosition position fun p =>
      let x := s.position p
      if x.state = .timedOut then s.refuse .late
      else if x.state ≠ .ordered then s.refuse .wrongState
      else if tool = x.sister then (s.confirmSister p).accept .ok
      else if s.isSubstitute x.sister tool then (s.confirmSubstitute p tool).accept .ok
      else s.refuse .wrongTool
  else s.refuse .badValue

/-! ### CANCEL_SWAP and SWAP_NOW -/

/-- A taken CANCEL_SWAP, in the four steps of R146. -/
def State.takeCancel (s : State) (p : Fin 12) : State :=
  let x := s.position p
  let s := (s.commit [s.oldTool x.sister]).place x.sister .store
  let s := s.setPosition p ⟨.halted, x.active, 0, 0⟩
  s.reportIfEligible x.sister

/-- CANCEL_SWAP (R146). -/
def State.cancelSwap (s : State) (position : Nat) : Answer :=
  s.atPosition position fun p =>
    if (s.position p).state = .ordered ∨ (s.position p).state = .timedOut then (s.takeCancel p).accept .ok
    else s.refuse .wrongState

/-- SWAP_NOW (R147). -/
def State.swapNow (s : State) (position : Nat) : Answer :=
  s.atPosition position fun p =>
    match (s.position p).state with
    | .due => (s.selection p).accept .ok
    | .waiting => (s.selection p).accept .ok
    | .halted => (s.selection p).accept .ok
    | .runOn => (s.selection p).accept .ok
    | .empty => s.refuse .wrongState
    | .serving => s.refuse .wrongState
    | .ordered => s.refuse .wrongState
    | .timedOut => s.refuse .wrongState

/-! ### The commands -/

def execMount (position tool : Nat) (s : State) : Host.Outcome State Fault Refusal :=
  .next (s.request fun s => s.mount position tool)

def execDismount (position : Nat) (s : State) : Host.Outcome State Fault Refusal :=
  .next (s.request fun s => s.dismount position)

def execConfirmSwap (position tool : Nat) (s : State) : Host.Outcome State Fault Refusal :=
  .next (s.request fun s => s.confirmSwap position tool)

def execCancelSwap (position : Nat) (s : State) : Host.Outcome State Fault Refusal :=
  .next (s.request fun s => s.cancelSwap position)

def execSwapNow (position : Nat) (s : State) : Host.Outcome State Fault Refusal :=
  .next (s.request fun s => s.swapNow position)

end Sys2Proof.Machine
end

