-- ==== Sys2Proof/Machine/ToolRequests.lean ====
section
/-! DEFINITION. The eight tool requests of the life accounting unit (Section 1.4). -/

namespace Sys2Proof.Machine

/-! ### DEFINE_TOOL (R13) -/

/-- The record that DEFINE_TOOL makes, before its forced recompute, and whether a value was clamped. The depths and the
stock of the other kind are ignored and held as 0 (R2). -/
def newTool (kind : Kind) (tag limit warnPercent threshold persistence learnCount shift lowBound highBound stock
    dressDepth nominalDepth : Nat) : Tool × Bool :=
  let limit := setting 1 4000000 limit
  let warn := settingOr 90 50 99 warnPercent
  let t := settingOr 3000 1 4095 threshold
  let n := settingOr 8 1 64 persistence
  let l := settingOr 4 1 16 learnCount
  let k := settingOr 4 1 8 shift
  let low := settingOr 614 128 1023 lowBound
  let high := settingOr 1638 1025 8191 highBound
  let unused : Setting := ⟨0, false⟩
  let stock := match kind with | .wheel => setting 0 20000 stock | .dresser => unused
  let depth := match kind with | .wheel => settingOr 5 1 200 dressDepth | .dresser => unused
  let nominal := match kind with | .wheel => unused | .dresser => settingOr 5 1 200 nominalDepth
  ({ kind := kind
     tag := tag
     group := 0
     placement := .store
     condition := .sound
     limit := limit.value
     warnPercent := warn.value
     used := 0
     threshold := t.value
     persistence := n.value
     learnCount := l.value
     shift := k.value
     lowBound := low.value
     highBound := high.value
     stock := stock.value
     dressDepth := depth.value
     nominalDepth := nominal.value
     dressCount := 0
     refs := refsCleared
     tallies := Tallies.zero },
   limit.clamped || warn.clamped || t.clamped || n.clamped || l.clamped || k.clamped || low.clamped || high.clamped ||
     stock.clamped || depth.clamped || nominal.clamped)

/-- A forced recompute: the condition becomes the life condition (R9). -/
def Tool.forced (t : Tool) : Tool := { t with condition := t.lifeCondition }

def State.defineTool (s : State) (tool kind tag limit warnPercent threshold persistence learnCount shift lowBound
    highBound stock dressDepth nominalDepth : Nat) : Answer :=
  match isToolNumber tool, kindArg kind with
  | true, some k =>
    match s.tool? tool with
    | some _ => s.refuse .alreadyDefined
    | none =>
      let new := newTool k tag limit warnPercent threshold persistence learnCount shift lowBound highBound stock dressDepth
        nominalDepth
      ((s.commit [s.oldTool tool]).setTool tool new.1.forced).accept (taken new.2)
  | _, _ => s.refuse .badValue

/-! ### ADJUST_TOOL (R14, R15) -/

/-- Every class reference that is not LEARNED returns to UNLEARNED (R15). -/
def Tool.dropRuns (t : Tool) : Tool :=
  { t with refs := perClass fun c => if t.refs[c].state = .learned then t.refs[c] else ClassRef.cleared }

/-- The record with the named fields written, and whether a value was clamped. `bits` is the change set (R14, R172). -/
def Tool.adjusted (t : Tool) (bits tag limit warnPercent threshold persistence learnCount shift lowBound highBound
    depth : Nat) : Tool × Bool :=
  let limit := settingIf (bits.testBit 1) t.limit 1 4000000 limit
  let warn := settingIf (bits.testBit 2) t.warnPercent 50 99 warnPercent
  let thr := settingIf (bits.testBit 3) t.threshold 1 4095 threshold
  let n := settingIf (bits.testBit 4) t.persistence 1 64 persistence
  let l := settingIf (bits.testBit 5) t.learnCount 1 16 learnCount
  let k := settingIf (bits.testBit 6) t.shift 1 8 shift
  let low := settingIf (bits.testBit 7) t.lowBound 128 1023 lowBound
  let high := settingIf (bits.testBit 8) t.highBound 1025 8191 highBound
  let dress := settingIf (bits.testBit 9 && decide (t.kind = .wheel)) t.dressDepth 1 200 depth
  let nominal := settingIf (bits.testBit 9 && decide (t.kind = .dresser)) t.nominalDepth 1 200 depth
  let u := { t with
    tag := if bits.testBit 0 then tag else t.tag
    limit := limit.value
    warnPercent := warn.value
    threshold := thr.value
    persistence := n.value
    learnCount := l.value
    shift := k.value
    lowBound := low.value
    highBound := high.value
    dressDepth := dress.value
    nominalDepth := nominal.value }
  (if l.value = t.learnCount then u else u.dropRuns,
   limit.clamped || warn.clamped || thr.clamped || n.clamped || l.clamped || k.clamped || low.clamped || high.clamped ||
     dress.clamped || nominal.clamped)

/-- The event of ADJUST_TOOL on a record that becomes `u` by the written values: the ordinary recompute with its
hand-overs, and the eligibility event of a stored tool that becomes eligible (R15, R81). -/
def State.adjustRecord (s : State) (tool : Nat) (t u : Tool) : State :=
  (((s.commit [s.oldTool tool]).setTool tool u).recompute tool).reportIfBecame tool (s.eligibleNow t)

def State.adjustTool (s : State) (tool changeSet tag limit warnPercent threshold persistence learnCount shift lowBound
    highBound depth : Nat) : Answer :=
  if isToolNumber tool = false ∨ 1024 ≤ changeSet then s.refuse .badValue
  else
    match s.tool? tool with
    | none => s.refuse .notDefined
    | some t =>
      if t.isReserved then s.refuse .busy
      else if changeSet = 0 then s.accept .ok
      else
        let new := t.adjusted changeSet tag limit warnPercent threshold persistence learnCount shift lowBound highBound depth
        (s.adjustRecord tool t new.1).accept (taken new.2)

/-! ### The other six -/

/-- READ_TOOL (R16, R175). -/
def State.readTool (s : State) (tool : Nat) : Answer :=
  if isToolNumber tool then
    match s.tool? tool with
    | none => s.refuse .notDefined
    | some t => ⟨s, .ok, t.bytes tool⟩
  else s.refuse .badValue

/-- The tool field of every incident record that names a tool is set to 0 (R108). -/
def State.forgetInIncidents (s : State) (tool : Nat) : State :=
  s.withIncidents (perStation fun st =>
    if (s.incident st).tool = tool then { s.incident st with tool := 0 } else s.incident st)

/-- DELETE_TOOL (R17, R108). -/
def State.deleteTool (s : State) (tool : Nat) : Answer :=
  if isToolNumber tool then
    match s.tool? tool with
    | none => s.refuse .notDefined
    | some t =>
      if t.placement ≠ .store then s.refuse .busy
      else if t.group ≠ 0 then s.refuse .conflict
      else (((s.commit [s.oldTool tool]).eraseTool tool).forgetInIncidents tool).accept .ok
  else s.refuse .badValue

/-- The record put back to the start of its life, with a stock for a wheel, before the forced recompute (R18). -/
def Tool.renewed (t : Tool) (stock : Nat) : Tool :=
  { t with used := 0, dressCount := 0, tallies := Tallies.zero, refs := refsCleared, stock := stock }

/-- RENEW_TOOL: the eligibility event is reported for the tool's group whether or not the tool is eligible (R18). -/
def State.renewTool (s : State) (tool stock : Nat) : Answer :=
  if isToolNumber tool then
    match s.tool? tool with
    | none => s.refuse .notDefined
    | some t =>
      if t.placement ≠ .store then s.refuse .busy
      else
        let x : Setting := match t.kind with | .wheel => setting 0 20000 stock | .dresser => ⟨t.stock, false⟩
        let s := (s.commit [s.oldTool tool]).setTool tool (t.renewed x.value).forced
        (if t.group = 0 then s else s.eligibilityEvent t.group).accept (taken x.clamped)
  else s.refuse .badValue

/-- WITHDRAW_TOOL (R19). -/
def State.withdrawTool (s : State) (tool : Nat) : Answer :=
  if isToolNumber tool then
    match s.tool? tool with
    | none => s.refuse .notDefined
    | some t =>
      if t.placement ≠ .store then s.refuse .busy
      else ((s.commit [s.oldTool tool]).setTool tool { t with condition := .withdrawn }).accept .ok
  else s.refuse .badValue

/-- REINSTATE_TOOL (R20). -/
def State.reinstateTool (s : State) (tool : Nat) : Answer :=
  if isToolNumber tool then
    match s.tool? tool with
    | none => s.refuse .notDefined
    | some t =>
      if t.placement ≠ .store then s.refuse .busy
      else if t.condition ≠ .broken ∧ t.condition ≠ .withdrawn then s.refuse .wrongState
      else
        let s := (s.commit [s.oldTool tool]).setTool tool { t with refs := refsCleared }.forced
        (s.reportIfEligible tool).accept .ok
  else s.refuse .badValue

/-- CLEAR_REFERENCE: taken in every placement and condition (R21). -/
def State.clearReference (s : State) (tool selector : Nat) : Answer :=
  match isToolNumber tool, selectorArg selector with
  | true, some picks =>
    match s.tool? tool with
    | none => s.refuse .notDefined
    | some t =>
      ((s.commit [s.oldTool tool]).setTool tool
        { t with refs := perClass fun c => if picks c then ClassRef.cleared else t.refs[c] }).accept .ok
  | _, _ => s.refuse .badValue

/-! ### The commands -/

def execDefineTool (tool kind tag limit warnPercent threshold persistence learnCount shift lowBound highBound stock
    dressDepth nominalDepth : Nat) (s : State) : Host.Outcome State Fault Refusal :=
  .next (s.request fun s => s.defineTool tool kind tag limit warnPercent threshold persistence learnCount shift lowBound
    highBound stock dressDepth nominalDepth)

def execAdjustTool (tool changeSet tag limit warnPercent threshold persistence learnCount shift lowBound highBound
    depth : Nat) (s : State) : Host.Outcome State Fault Refusal :=
  .next (s.request fun s => s.adjustTool tool changeSet tag limit warnPercent threshold persistence learnCount shift
    lowBound highBound depth)

def execReadTool (tool : Nat) (s : State) : Host.Outcome State Fault Refusal :=
  .next (s.request fun s => s.readTool tool)

def execDeleteTool (tool : Nat) (s : State) : Host.Outcome State Fault Refusal :=
  .next (s.request fun s => s.deleteTool tool)

def execRenewTool (tool stock : Nat) (s : State) : Host.Outcome State Fault Refusal :=
  .next (s.request fun s => s.renewTool tool stock)

def execWithdrawTool (tool : Nat) (s : State) : Host.Outcome State Fault Refusal :=
  .next (s.request fun s => s.withdrawTool tool)

def execReinstateTool (tool : Nat) (s : State) : Host.Outcome State Fault Refusal :=
  .next (s.request fun s => s.reinstateTool tool)

def execClearReference (tool selector : Nat) (s : State) : Host.Outcome State Fault Refusal :=
  .next (s.request fun s => s.clearReference tool selector)

end Sys2Proof.Machine
end

