-- ==== Sys2Proof/Machine/Link.lean ====
section
/-! DEFINITION. The link port: frame assembly, the checks of a complete frame, and the hand-over of a request to its owning
block (Sections 10.2 and 10.3). -/

namespace Sys2Proof.Machine

/-- The owning block's work for a request; an event is no request and is never read from a frame (Table 10-3). -/
def workOf : Instr → Option (State → Answer)
  | .defineTool tool kind tag limit warnPercent threshold persistence learnCount shift lowBound highBound stock dressDepth
      nominalDepth => some fun s => s.defineTool tool kind tag limit warnPercent threshold persistence learnCount shift
        lowBound highBound stock dressDepth nominalDepth
  | .adjustTool tool changeSet tag limit warnPercent threshold persistence learnCount shift lowBound highBound depth =>
      some fun s => s.adjustTool tool changeSet tag limit warnPercent threshold persistence learnCount shift lowBound
        highBound depth
  | .readTool tool => some fun s => s.readTool tool
  | .deleteTool tool => some fun s => s.deleteTool tool
  | .renewTool tool stock => some fun s => s.renewTool tool stock
  | .withdrawTool tool => some fun s => s.withdrawTool tool
  | .reinstateTool tool => some fun s => s.reinstateTool tool
  | .clearReference tool selector => some fun s => s.clearReference tool selector
  | .defineGroup group kind chainLength chain policy margin action overrunPercent onBurst onUnderload onOverload
      onContactLoss => some fun s => s.defineGroup group kind chainLength chain policy margin action overrunPercent onBurst
        onUnderload onOverload onContactLoss
  | .readGroup group => some fun s => s.readGroup group
  | .deleteGroup group => some fun s => s.deleteGroup group
  | .setStation station present eMin blank airLimit staleWindow action swapTimeout =>
      some fun s => s.setStation station present eMin blank airLimit staleWindow action swapTimeout
  | .readStation station => some fun s => s.readStation station
  | .mount position tool => some fun s => s.mount position tool
  | .dismount position => some fun s => s.dismount position
  | .confirmSwap position tool => some fun s => s.confirmSwap position tool
  | .cancelSwap position => some fun s => s.cancelSwap position
  | .swapNow position => some fun s => s.swapNow position
  | .verdict station judged => some fun s => s.verdict station judged
  | .hold station => some fun s => s.holdStation station
  | .resume station => some fun s => s.resumeStation station
  | .clearFault station => some fun s => s.clearFault station
  | .resetStation station => some fun s => s.resetStation station
  | .fetchNotice => some State.fetchNotice
  | .setAttention urgentEnable routineEnable level => some fun s => s.setAttention urgentEnable routineEnable level
  | .readCapture station start => some fun s => s.readCapture station start
  | .clearTables => some State.clearTables
  | .resetSupervisor => some State.askSupervisorReset
  | .powerOn _ => none
  | .powerFail _ => none
  | .sample _ _ _ _ => none
  | .burst _ => none
  | .channelFaultLatch _ _ => none
  | .captureFreeze _ => none
  | .swapTimerExpiry _ => none
  | .requestFrame _ => none
  | .gapTimeout => none
  | .replyComplete => none
  | .receivedCharacter _ _ => none

/-- The work for an accepted frame's code and body: UNKNOWN_REQUEST and BAD_LENGTH before the owning block (R169). -/
def frameWork (code : Nat) (body : List Byte) (s : State) : Answer :=
  match requestLength code with
  | none => s.refuse .unknownRequest
  | some len =>
    if body.length ≠ len then s.refuse .badLength
    else
      match (decodeRequest code body).bind workOf with
      | some work => work s
      | none => s.refuse .unknownRequest

/-- The port hunts for a lead byte, holding no partial frame. -/
def LinkPort.hunting (x : LinkPort) : LinkPort := { x with state := .hunt, buffer := [], gap := 0 }

/-- The port back in HUNT (R166). -/
def State.hunt (s : State) : State := s.withLink s.link.hunting

/-- A complete frame is checked: its CRC, then its address; an accepted one is executed and answered (R168, R169). The
frame is its bytes from the lead byte on. -/
def State.takeFrame (s : State) (frame : List Byte) : State :=
  let n := field frame 2 1
  if field frame (4 + n) 2 ≠ (crc16 ((frame.drop 1).take (3 + n))).toNat then s.hunt
  else if field frame 1 1 ≠ s.link.address then s.hunt
  else s.serve (frameWork (field frame 3 1) ((frame.drop 4).take n))

/-- A character is stored in ASSEMBLE: a length byte above 240 discards the frame, and the byte 6 + n completes it (R166). -/
def State.assemble (s : State) (char : Byte) : State :=
  let frame := s.link.buffer ++ [char]
  if 3 ≤ frame.length ∧ 240 < field frame 2 1 then s.hunt
  else if 3 ≤ frame.length ∧ frame.length = 6 + field frame 2 1 then s.takeFrame frame
  else s.withLink { s.link with buffer := frame, gap := 0 }

/-- One received character (R166). In EXECUTE and REPLY it is discarded. -/
def State.receive (s : State) (char : Byte) (error : Bool) : State :=
  match s.link.state with
  | .hunt =>
    if error = false ∧ char = 0xD5#8 then s.withLink { s.link with state := .assemble, buffer := [char], gap := 0 } else s
  | .assemble => if error then s.hunt else s.assemble char
  | .execute => s
  | .reply => s

/-- The characters of a frame, one after another with no gap. -/
def State.receiveAll (s : State) (chars : List Byte) : State := chars.foldl (fun s c => s.receive c false) s

/-- 5 ms have passed without a character: in ASSEMBLE the partial frame is discarded (R166). -/
def State.gapPassed (s : State) : State :=
  match s.link.state with
  | .assemble => s.hunt
  | .hunt => s
  | .execute => s
  | .reply => s

/-- The last byte of the reply has been sent: the port is in HUNT, and the reset of an answered RESET_SUPERVISOR is taken
(R169, R173). -/
def State.replySent (s : State) : State :=
  match s.link.state with
  | .reply => if s.link.resetPending then s.hunt.takeSupervisorReset else s.hunt
  | .hunt => s
  | .assemble => s
  | .execute => s

/-! ### The commands -/

/-- The characters of a whole frame arrive: in HUNT they make one complete frame, which is checked and taken (R166, R168). -/
def execRequestFrame (frame : List Byte) (s : State) : Host.Outcome State Fault Refusal :=
  .next (s.event fun s => s.receiveAll frame)

def execReceivedCharacter (char : Byte) (error : Bool) (s : State) : Host.Outcome State Fault Refusal :=
  .next (s.event fun s => s.receive char error)

def execGapTimeout (s : State) : Host.Outcome State Fault Refusal :=
  .next (s.event fun s => s.gapPassed)

def execReplyComplete (s : State) : Host.Outcome State Fault Refusal :=
  .next (s.event fun s => s.replySent)

end Sys2Proof.Machine
end

