-- ==== Sys2Proof/Machine/Clock.lean ====
section
/-! DEFINITION. One millisecond: what the part does when no command waits (R141, R142, R155, R166). -/

namespace Sys2Proof.Machine

/-- The millisecond clock is 32 bits wide and wraps (R155). -/
def clockNext (t : Nat) : Nat := (t + 1) % 4294967296

/-- The running timer of an ORDERED position counts one millisecond down, and expires when it reaches 0 (R141, R142). -/
def State.countDown (s : State) (p : Fin 12) : State :=
  let x := s.position p
  if x.state = .ordered then
    if x.timer ≤ 1 then s.timerExpiry p else s.setPosition p { x with timer := x.timer - 1 }
  else s

/-- The link's gap: 5 ms after the last character of a partial frame it is discarded (R166). -/
def State.countGap (s : State) : State :=
  if s.link.state = .assemble then
    if 4 ≤ s.link.gap then s.gapPassed else s.withLink { s.link with gap := s.link.gap + 1 }
  else s

/-- One millisecond passes: the clock, then the swap timers in the order of their positions, then the link's gap. -/
def State.millisecond (s : State) : State :=
  (allPositions.foldl State.countDown (s.withClock (clockNext s.clock))).countGap

/-- The part on an empty queue (log entry 7). -/
def tick (s : State) : State := s.event State.millisecond

end Sys2Proof.Machine
end

