-- ==== Sys2Proof/Machine/Events.lean ====
section
/-! DEFINITION. The commands that are events of the board, of the grinders and of the blocks themselves. A part without
power takes only POWER_ON (log entry 6). -/

namespace Sys2Proof.Machine

def execPowerOn (straps : Straps) (s : State) : Host.Outcome State Fault Refusal := .next (s.takePowerOn straps)

def execPowerFail (unfinished : Nat) (s : State) : Host.Outcome State Fault Refusal :=
  .next (if s.powered then s.takePowerFail unfinished else s)

def execSample (station : Fin 6) (power ae : Code) (raw : Lines) (s : State) : Host.Outcome State Fault Refusal :=
  .next (s.event fun s => s.takeSample station power ae raw)

def execBurst (station : Fin 6) (s : State) : Host.Outcome State Fault Refusal :=
  .next (s.event fun s => s.takeBurst station)

def execChannelFaultLatch (station : Fin 6) (channel : Channel) (s : State) : Host.Outcome State Fault Refusal :=
  .next (s.event fun s => s.channelFaultLatch station channel)

def execCaptureFreeze (station : Fin 6) (s : State) : Host.Outcome State Fault Refusal :=
  .next (s.event fun s => s.setCapture station (s.capture station).freeze)

def execSwapTimerExpiry (position : Fin 12) (s : State) : Host.Outcome State Fault Refusal :=
  .next (s.event fun s => s.timerExpiry position)

end Sys2Proof.Machine
end

