-- ==== Sys2Proof/Machine/Dispatch.lean ====
section
/-! DEFINITION. One arm per command: the direct call of its meaning. -/

namespace Sys2Proof.Machine

def exec (i : Instr) (s : State) : Host.Outcome State Fault Refusal :=
  match i with
  | .powerOn straps => Sys2Proof.Machine.execPowerOn straps s
  | .powerFail unfinished => Sys2Proof.Machine.execPowerFail unfinished s
  | .sample station power ae raw => Sys2Proof.Machine.execSample station power ae raw s
  | .burst station => Sys2Proof.Machine.execBurst station s
  | .channelFaultLatch station channel => Sys2Proof.Machine.execChannelFaultLatch station channel s
  | .captureFreeze station => Sys2Proof.Machine.execCaptureFreeze station s
  | .swapTimerExpiry position => Sys2Proof.Machine.execSwapTimerExpiry position s
  | .requestFrame frame => Sys2Proof.Machine.execRequestFrame frame s
  | .gapTimeout => Sys2Proof.Machine.execGapTimeout s
  | .replyComplete => Sys2Proof.Machine.execReplyComplete s
  | .defineTool tool kind tag limit warnPercent threshold persistence learnCount shift lowBound highBound stock dressDepth nominalDepth => Sys2Proof.Machine.execDefineTool tool kind tag limit warnPercent threshold persistence learnCount shift lowBound highBound stock dressDepth nominalDepth s
  | .adjustTool tool changeSet tag limit warnPercent threshold persistence learnCount shift lowBound highBound depth => Sys2Proof.Machine.execAdjustTool tool changeSet tag limit warnPercent threshold persistence learnCount shift lowBound highBound depth s
  | .readTool tool => Sys2Proof.Machine.execReadTool tool s
  | .deleteTool tool => Sys2Proof.Machine.execDeleteTool tool s
  | .renewTool tool stock => Sys2Proof.Machine.execRenewTool tool stock s
  | .withdrawTool tool => Sys2Proof.Machine.execWithdrawTool tool s
  | .reinstateTool tool => Sys2Proof.Machine.execReinstateTool tool s
  | .clearReference tool selector => Sys2Proof.Machine.execClearReference tool selector s
  | .defineGroup group kind chainLength chain policy margin action overrunPercent onBurst onUnderload onOverload onContactLoss => Sys2Proof.Machine.execDefineGroup group kind chainLength chain policy margin action overrunPercent onBurst onUnderload onOverload onContactLoss s
  | .readGroup group => Sys2Proof.Machine.execReadGroup group s
  | .deleteGroup group => Sys2Proof.Machine.execDeleteGroup group s
  | .setStation station present eMin blank airLimit staleWindow action swapTimeout => Sys2Proof.Machine.execSetStation station present eMin blank airLimit staleWindow action swapTimeout s
  | .readStation station => Sys2Proof.Machine.execReadStation station s
  | .mount position tool => Sys2Proof.Machine.execMount position tool s
  | .dismount position => Sys2Proof.Machine.execDismount position s
  | .confirmSwap position tool => Sys2Proof.Machine.execConfirmSwap position tool s
  | .cancelSwap position => Sys2Proof.Machine.execCancelSwap position s
  | .swapNow position => Sys2Proof.Machine.execSwapNow position s
  | .verdict station judged => Sys2Proof.Machine.execVerdict station judged s
  | .hold station => Sys2Proof.Machine.execHold station s
  | .resume station => Sys2Proof.Machine.execResume station s
  | .clearFault station => Sys2Proof.Machine.execClearFault station s
  | .resetStation station => Sys2Proof.Machine.execResetStation station s
  | .fetchNotice => Sys2Proof.Machine.execFetchNotice s
  | .setAttention urgentEnable routineEnable level => Sys2Proof.Machine.execSetAttention urgentEnable routineEnable level s
  | .readCapture station start => Sys2Proof.Machine.execReadCapture station start s
  | .clearTables => Sys2Proof.Machine.execClearTables s
  | .resetSupervisor => Sys2Proof.Machine.execResetSupervisor s
  | .receivedCharacter char error => Sys2Proof.Machine.execReceivedCharacter char error s

end Sys2Proof.Machine
end

