-- ==== Sys2Proof/WellFormed.lean ====
section
/-! DEFINITION. Which terms of `Instr` a sender can send: each request operand fits the width R172 gives its field, a
DEFINE_GROUP carries eight chain numbers, and a REQUEST_FRAME is one whole frame of Table 10-1. Values inside a width
but outside a range are well formed: the part answers them. -/

namespace Sys2Proof

/-- A value fits a field of one byte. -/
abbrev fits1 (v : Nat) : Bool := v < 256

/-- A value fits a field of two bytes. -/
abbrev fits2 (v : Nat) : Bool := v < 65536

/-- A value fits a field of four bytes. -/
abbrev fits4 (v : Nat) : Bool := v < 4294967296

/-- The bytes are one whole request frame: lead byte 0xD5, a body length n of at most 240 in the third byte, and
6 + n bytes in all (Table 10-1). -/
def isWholeFrame (frame : List Byte) : Bool :=
  match frame with
  | lead :: _ :: len :: _ => lead == 0xD5 && decide (len.toNat ≤ 240) && frame.length == 6 + len.toNat
  | _ => false

/-- The command can be sent as it stands. -/
def Instr.wf : Instr → Bool
  | .powerOn _ => true
  | .powerFail _ => true
  | .sample _ _ _ _ => true
  | .burst _ => true
  | .channelFaultLatch _ _ => true
  | .captureFreeze _ => true
  | .swapTimerExpiry _ => true
  | .requestFrame frame => isWholeFrame frame
  | .gapTimeout => true
  | .replyComplete => true
  | .defineTool tool kind tag limit warnPercent threshold persistence learnCount shift lowBound highBound stock
      dressDepth nominalDepth =>
      fits1 tool && fits1 kind && fits2 tag && fits4 limit && fits1 warnPercent && fits2 threshold && fits1 persistence &&
      fits1 learnCount && fits1 shift && fits2 lowBound && fits2 highBound && fits2 stock && fits1 dressDepth &&
      fits1 nominalDepth
  | .adjustTool tool changeSet tag limit warnPercent threshold persistence learnCount shift lowBound highBound depth =>
      fits1 tool && fits2 changeSet && fits2 tag && fits4 limit && fits1 warnPercent && fits2 threshold &&
      fits1 persistence && fits1 learnCount && fits1 shift && fits2 lowBound && fits2 highBound && fits1 depth
  | .readTool tool => fits1 tool
  | .deleteTool tool => fits1 tool
  | .renewTool tool stock => fits1 tool && fits2 stock
  | .withdrawTool tool => fits1 tool
  | .reinstateTool tool => fits1 tool
  | .clearReference tool selector => fits1 tool && fits1 selector
  | .defineGroup group kind chainLength chain policy margin action overrunPercent onBurst onUnderload onOverload onContactLoss =>
      fits1 group && fits1 kind && fits1 chainLength && chain.length == 8 && chain.all fits1 && fits1 policy &&
      fits4 margin && fits1 action && fits1 overrunPercent && fits1 onBurst && fits1 onUnderload && fits1 onOverload &&
      fits1 onContactLoss
  | .readGroup group => fits1 group
  | .deleteGroup group => fits1 group
  | .setStation station present eMin blank airLimit staleWindow action swapTimeout =>
      fits1 station && fits1 present && fits4 eMin && fits1 blank && fits1 airLimit && fits2 staleWindow && fits1 action &&
      fits2 swapTimeout
  | .readStation station => fits1 station
  | .mount position tool => fits1 position && fits1 tool
  | .dismount position => fits1 position
  | .confirmSwap position tool => fits1 position && fits1 tool
  | .cancelSwap position => fits1 position
  | .swapNow position => fits1 position
  | .verdict station judged => fits1 station && fits1 judged
  | .hold station => fits1 station
  | .resume station => fits1 station
  | .clearFault station => fits1 station
  | .resetStation station => fits1 station
  | .fetchNotice => true
  | .setAttention urgentEnable routineEnable level => fits1 urgentEnable && fits1 routineEnable && fits1 level
  | .readCapture station start => fits1 station && fits2 start
  | .clearTables => true
  | .resetSupervisor => true
  | .receivedCharacter _ _ => true

end Sys2Proof
end

