-- ==== Sys2Proof/Safety.lean ====
section
/-! DEFINITION. What the claims speak of: what a command leaves as it was, how a request is answered, what services of
waiting lists may change, and the invariants that every step keeps. -/

namespace Sys2Proof.Machine

/-! ### What a command leaves as it was -/

/-- The parts of the state, for saying which of them a command leaves as they were. -/
inductive Part where
  | powered
  | clock
  | tools
  | groups
  | configs
  | monitors
  | captures
  | incidents
  | flags
  | positions
  | notices
  | link
  | journal
  | pending
  deriving DecidableEq, Repr

/-- A part is the same in both states. -/
def Part.same (s t : State) : Part → Prop
  | .powered => t.powered = s.powered
  | .clock => t.clock = s.clock
  | .tools => t.tools = s.tools
  | .groups => t.groups = s.groups
  | .configs => t.configs = s.configs
  | .monitors => t.monitors = s.monitors
  | .captures => t.captures = s.captures
  | .incidents => t.incidents = s.incidents
  | .flags => t.flags = s.flags
  | .positions => t.positions = s.positions
  | .notices => t.notices = s.notices
  | .link => t.link = s.link
  | .journal => t.journal = s.journal
  | .pending => t.pending = s.pending

/-- Every part but the listed ones is as it was. -/
def onlyChanges (parts : List Part) (s t : State) : Prop := ∀ x : Part, x ∉ parts → x.same s t

/-- Of the tool table only the record of tool `n` differs, and it holds `x` (none: undefined). -/
def toolBecomes (n : Nat) (x : Option Tool) (s t : State) : Prop :=
  ∀ m, t.tool? m = if m = n then x else s.tool? m

/-- Of the station records of one kind only that of `st` differs, and it holds `x`. -/
def oneBecomes {α : Type} {k : Nat} (i : Fin k) (x : α) (before after : Vector α k) : Prop :=
  ∀ j : Fin k, after[j] = if j = i then x else before[j]

/-! ### Answers -/

/-- The reply in the port of `t` answers a request taken in `s`: the summary byte of `s`, the result and the body (R169, R170). -/
def replied (s t : State) (r : ResultCode) (body : List Byte) : Prop :=
  t.link = s.link.sending ⟨s.summaryByte, r, body⟩

/-- A refused request: the reply has an empty body, and nothing else changes but the journal of the event (R171). -/
def refused (s t : State) (r : ResultCode) : Prop :=
  replied s t r [] ∧ t.journal = [] ∧ onlyChanges [.link, .journal] s t

/-- A taken request with an empty body that changes the listed parts alone, beside the port and the journal. -/
def takenOk (s t : State) (r : ResultCode) (parts : List Part) : Prop :=
  replied s t r [] ∧ onlyChanges (.link :: .journal :: parts) s t

/-- A request with an empty body was taken: it is answered OK or ADJUSTED (R171). -/
def answeredOk (s t : State) : Prop := replied s t .ok [] ∨ replied s t .adjusted []

/-! ### Commits (R22, log entry 3) -/

/-- What tool number `n` held before a write of a commit, none where the write is of another record. -/
def RetainedWrite.toolBefore (n : Nat) : RetainedWrite → Option (Option Tool)
  | .tool m old => if m = n then some old else none
  | .group _ _ => none
  | .config _ _ => none
  | .tables ts _ => some (tableGet ts n)

/-- What group number `n` held before a write of a commit, none where the write is of another record. -/
def RetainedWrite.groupBefore (n : Nat) : RetainedWrite → Option (Option Group)
  | .tool _ _ => none
  | .group m old => if m = n then some old else none
  | .config _ _ => none
  | .tables _ gs => some (tableGet gs n)

/-- What the configuration of a station held before a write of a commit, none where the write is of another record. -/
def RetainedWrite.configBefore (st : Fin 6) : RetainedWrite → Option StationConfig
  | .tool _ _ => none
  | .group _ _ => none
  | .config other old => if other = st then some old else none
  | .tables _ _ => none

/-- What a record held before the newest `k` commits of a journal, by what their writes say it held: the oldest of those
writes tells it, and a record that none of them wrote holds what it holds `now`. -/
def heldBefore {α : Type} (before : RetainedWrite → Option α) (journal : List Commit) (k : Nat) (now : α) : α :=
  (((journal.take k).flatten.filterMap before).getLast?).getD now

/-! ### Recomputes (R9, R11, R137) -/

/-- An ordinary recompute takes tool `n`, whose condition was `old`, to the record `y` and the state `s` to `t`: the new
condition (R9), the WARN or SPENT notice of a crossing (R11, R79), and the hand-over, which puts a SERVING position DUE when
its tool becomes SPENT, and a DUE, WAITING or RUN_ON one back to SERVING when its tool is SOUND or WARNED again (R137). -/
def recomputeLeaves (s t : State) (n : Nat) (old : Condition) (y : Tool) : Prop :=
  y.condition =
    (match old with
    | .broken => .broken
    | .withdrawn => .withdrawn
    | .overrun => if y.lifeCondition = .spent then .overrun else y.lifeCondition
    | .sound => y.lifeCondition
    | .warned => y.lifeCondition
    | .spent => y.lifeCondition) ∧
  t.notices =
    (if old = .sound ∧ y.condition = .warned then
      s.notices.push false ⟨.warn, y.placement.seat.1, y.placement.seat.2, n, y.tag, y.used, 0, s.clock⟩
    else if (old = .sound ∨ old = .warned) ∧ y.condition = .spent then
      s.notices.push false ⟨.spent, y.placement.seat.1, y.placement.seat.2, n, y.tag,
        if 1024 * y.limit ≤ y.used then y.used else y.stock, if 1024 * y.limit ≤ y.used then 0 else 1, s.clock⟩
    else s.notices) ∧
  (∀ p, y.placement = .mounted p →
    if old ≠ .spent ∧ y.condition = .spent ∧ (s.position p).state = .serving then
      t.groups = s.groups ∧ oneBecomes p ⟨.due, (s.position p).active, 0, 0⟩ s.positions t.positions
    else if (old = .spent ∨ old = .overrun) ∧ y.condition.serviceable = true ∧
        ((s.position p).state = .due ∨ (s.position p).state = .waiting ∨ (s.position p).state = .runOn) then
      oneBecomes p ⟨.serving, (s.position p).active, 0, 0⟩ s.positions t.positions ∧
      ((s.position p).active = n → ∀ m, t.group? m =
        if m = y.group then (s.group? m).map fun g => { g with waiting := g.waiting.filter fun q => decide (q ≠ p) }
        else s.group? m)
    else t.groups = s.groups ∧ t.positions = s.positions) ∧
  ((∀ p, y.placement ≠ .mounted p) → t.groups = s.groups ∧ t.positions = s.positions)

/-! ### Services of waiting lists (R131) -/

/-- A tool record after services: its placement may have gone from STORE to RESERVED, and nothing else differs. -/
def Tool.servedTo (x y : Tool) : Prop :=
  y = x ∨ (x.placement = .store ∧ ∃ p, y = { x with placement := .reserved p })

/-- A group record after services: the cursor may have moved, and positions may have left the waiting list. -/
def Group.servedTo (g h : Group) : Prop :=
  h = { g with cursor := h.cursor, waiting := h.waiting } ∧ h.waiting.Sublist g.waiting

/-- A position after services: it may have gone from WAITING to ORDERED with its tool. -/
def Position.servedTo (x y : Position) : Prop :=
  y = x ∨ (x.state = .waiting ∧ y.state = .ordered ∧ y.active = x.active)

/-- A record of a table after services, defined exactly when it was. -/
def optionServedTo {α : Type} (served : α → α → Prop) : Option α → Option α → Prop
  | none, none => True
  | some x, some y => served x y
  | none, some _ => False
  | some _, none => False

/-- What services of waiting lists can make of a state: members are reserved for WAITING positions, which go ORDERED and
leave their lists, with notices. -/
def servedTo (s t : State) : Prop :=
  onlyChanges [.tools, .groups, .positions, .notices, .journal] s t ∧
  (∀ n, optionServedTo Tool.servedTo (s.tool? n) (t.tool? n)) ∧
  (∀ n, optionServedTo Group.servedTo (s.group? n) (t.group? n)) ∧
  (∀ p, Position.servedTo (s.position p) (t.position p)) ∧
  t.notices.routine = s.notices.routine ∧ t.notices.routineLost = s.notices.routineLost

/-! ### Reply bodies and tool changes -/

/-- The body holds the listed numbers: each triple is an offset, a count of bytes and the number they spell. -/
def bodyHolds (body : List Byte) (fields : List (Nat × Nat × Nat)) : Prop :=
  ∀ x ∈ fields, field body x.1 x.2.1 = x.2.2 % 256 ^ x.2.1

/-- A station monitor as each reset leaves it, in the state `x` (R26, R31, R87, R99). The LOW levels of a present station and
the filter's own memory are log entry 13. -/
def monitorAfterReset (x : MonitorState) : Monitor where
  state := x
  filtered := ⟨false, false, false, false, false⟩
  differing := ⟨false, false, false, false, false⟩
  primed := false
  op := none
  energy := 0
  powerFaultMark := false
  sampleCount := 0
  blanking := 0
  burstCounter := 0
  runPeak := 0
  burstDone := false
  power := ⟨none, 0, false⟩
  ae := ⟨none, 0, false⟩
  air := 0
  lastIndex := 0

/-- A station monitor after the active tool of its position of kind `k` has changed: the void marks of R41 and R42, and,
where a tool was `mounted` at the wheel position, the AIR counter at 0 (R65). -/
def Monitor.afterToolChange (m : Monitor) (k : Kind) (mounted : Bool) : Monitor :=
  { m with
    air := if mounted = true ∧ k = .wheel then 0 else m.air
    op := m.op.map fun l =>
      { l with
        void := l.void || decide (m.state = .pass ∧ k = .wheel ∨ m.state = .dress ∧ k = .dresser)
        wheelVoid := l.wheelVoid || decide (m.state = .dress ∧ k = .wheel) } }

/-! ### The queues and the clock (R155, R156, R157, R158, R161) -/

/-- A queue that is empty has its lost flag clear; an empty urgent queue has the count 0. -/
def NoticeQueues.ok (q : NoticeQueues) : Prop :=
  q.urgent.length ≤ 16 ∧ q.routine.length ≤ 48 ∧ q.count ≤ 4 ∧
  (q.urgent = [] → q.urgentLost = false ∧ q.count = 0) ∧ (q.routine = [] → q.routineLost = false) ∧
  (q.level = 1 ∨ q.level = 8 ∨ q.level = 16 ∨ q.level = 32)

/-- The queues are within their bounds and the clock is a 32-bit number. -/
def queuesOk (s : State) : Prop := s.notices.ok ∧ s.clock < 4294967296

/-! ### The tables (R1, R120, R22) -/

/-- A retained record that a commit would put back keeps the tables in their canonical form. -/
def RetainedWrite.ok : RetainedWrite → Prop
  | .tool n (some _) => 0 < n
  | .tool _ none => True
  | .group n (some _) => 0 < n
  | .group _ none => True
  | .config _ _ => True
  | .tables ts gs => tableWf ts = true ∧ tableWf gs = true

/-- Both tables are in canonical form, and so is everything a power failure would put back. -/
def tablesOk (s : State) : Prop :=
  tableWf s.tools = true ∧ tableWf s.groups = true ∧ ∀ c ∈ s.journal, ∀ w ∈ c, RetainedWrite.ok w

/-! ### The conditions (R8, R9, R10) -/

/-- The condition agrees with the life condition: SOUND, WARNED and SPENT are it, and an OVERRUN tool is spent by life. -/
def Tool.conditionOk (t : Tool) : Prop :=
  match t.condition with
  | .sound => t.lifeCondition = .sound
  | .warned => t.lifeCondition = .warned
  | .spent => t.lifeCondition = .spent
  | .overrun => t.lifeCondition = .spent
  | .broken => True
  | .withdrawn => True

/-- A property holds of every tool record that a commit would put back. -/
def RetainedWrite.everyTool (P : Tool → Prop) : RetainedWrite → Prop
  | .tool _ (some t) => P t
  | .tool _ none => True
  | .group _ _ => True
  | .config _ _ => True
  | .tables ts _ => ∀ e ∈ ts, P e.2

/-- A property holds of every tool record, held or to be put back by a power failure. -/
def everyTool (P : Tool → Prop) (s : State) : Prop :=
  (∀ e ∈ s.tools, P e.2) ∧ ∀ c ∈ s.journal, ∀ w ∈ c, RetainedWrite.everyTool P w

/-- Every record's condition agrees with its life condition. -/
def conditionsOk (s : State) : Prop := everyTool Tool.conditionOk s

/-! ### The ranges of the tool records (R2, R3, R4, Table 1-1) -/

/-- A class reference is as R3's table has it. -/
def ClassRef.inRange (x : ClassRef) : Prop :=
  match x.state with
  | .unlearned => x.n = 0 ∧ x.sum = 0 ∧ x.value = 0
  | .learning => 1 ≤ x.n ∧ x.n ≤ 15 ∧ x.n ≤ x.sum ∧ x.sum ≤ x.n * max32 ∧ x.value = 0
  | .learned => 1 ≤ x.n ∧ x.n ≤ 16 ∧ x.n ≤ x.sum ∧ x.sum ≤ x.n * max32 ∧ 1 ≤ x.value ∧ x.value ≤ max32

/-- The fields of a record are within the ranges of Table 1-1, with the held zeros of R2. -/
def Tool.inRange (t : Tool) : Prop :=
  t.tag < 65536 ∧ 1 ≤ t.limit ∧ t.limit ≤ 4000000 ∧ 50 ≤ t.warnPercent ∧ t.warnPercent ≤ 99 ∧ t.used ≤ max32 ∧
  1 ≤ t.threshold ∧ t.threshold ≤ 4095 ∧ 1 ≤ t.persistence ∧ t.persistence ≤ 64 ∧
  1 ≤ t.learnCount ∧ t.learnCount ≤ 16 ∧ 1 ≤ t.shift ∧ t.shift ≤ 8 ∧
  128 ≤ t.lowBound ∧ t.lowBound ≤ 1023 ∧ 1025 ≤ t.highBound ∧ t.highBound ≤ 8191 ∧
  t.stock ≤ 20000 ∧ t.dressCount ≤ max32 ∧
  (t.kind = .wheel → 1 ≤ t.dressDepth ∧ t.dressDepth ≤ 200 ∧ t.nominalDepth = 0) ∧
  (t.kind = .dresser → t.stock = 0 ∧ t.dressDepth = 0 ∧ 1 ≤ t.nominalDepth ∧ t.nominalDepth ≤ 200) ∧
  (∀ c : Fin 4, t.refs[c].inRange) ∧
  t.tallies.burst ≤ 65535 ∧ t.tallies.underload ≤ 65535 ∧ t.tallies.overload ≤ 65535 ∧ t.tallies.contactLoss ≤ 65535

/-- The energy of a monitor is a 32-bit count, and the pass it has latched has an E_min of at least 1 and a learn count of
at most 16 (R30, R33, R44). -/
def Monitor.inRange (m : Monitor) : Prop :=
  m.energy ≤ max32 ∧
  ∀ l, m.op = some l → (l.kind = .pass → 1 ≤ l.eMin) ∧ ∀ j, l.judge = some j → j.learnCount ≤ 16

/-- A configuration has an E_min of at least 1 (R44), also one that a power failure would put back. -/
def RetainedWrite.configOk : RetainedWrite → Prop
  | .config _ c => 1 ≤ c.eMin
  | .tool _ _ => True
  | .group _ _ => True
  | .tables _ _ => True

/-- Every tool record is in range, with what the monitors and configurations feed into it; every waiting command can be
sent. -/
def recordsOk (s : State) : Prop :=
  everyTool Tool.inRange s ∧ (∀ st : Fin 6, (s.monitor st).inRange) ∧ (∀ st : Fin 6, 1 ≤ (s.config st).eMin) ∧
  (∀ c ∈ s.journal, ∀ w ∈ c, RetainedWrite.configOk w) ∧ ∀ c ∈ s.pending, c.wf = true

/-! ### Chains, seats and waiting lists (R5, R6, R121, R130, R135) -/

/-- Chains and group fields agree (R5, R121): a chain holds 1 to 8 different tools, each defined, of the group's kind and
with the group in its group field; a group field that is not 0 names a group whose chain holds the tool; the cursor is an
index into the chain. -/
def chainsOk (s : State) : Prop :=
  (∀ gno g, s.group? gno = some g → 1 ≤ g.chain.length ∧ g.chain.length ≤ 8 ∧ g.chain.Nodup ∧ g.cursor < g.chain.length ∧
    ∀ n ∈ g.chain, ∃ t, s.tool? n = some t ∧ t.kind = g.kind ∧ t.group = gno) ∧
  ∀ n t, s.tool? n = some t → t.group ≠ 0 → ∃ g, s.group? t.group = some g ∧ n ∈ g.chain

/-- The state of a position agrees with its tool, its sister and its timer (R135). -/
def Position.shapeOk (x : Position) : Prop :=
  (x.active = 0 ↔ x.state = .empty) ∧ (x.sister ≠ 0 ↔ x.state = .ordered ∨ x.state = .timedOut) ∧
  (x.state ≠ .ordered → x.timer = 0)

/-- Placements and positions agree (R6): a tool's placement names a position exactly when that position's active tool or
reserved sister is that tool. -/
def seatsOk (s : State) : Prop :=
  (∀ p : Fin 12, (s.position p).shapeOk) ∧
  (∀ p : Fin 12, ∀ n, (n ≠ 0 ∧ (s.position p).active = n) ↔ ∃ t, s.tool? n = some t ∧ t.placement = .mounted p) ∧
  (∀ p : Fin 12, ∀ n, (n ≠ 0 ∧ (s.position p).sister = n) ↔ ∃ t, s.tool? n = some t ∧ t.placement = .reserved p)

/-- A position is WAITING or RUN_ON. -/
def Position.waits (x : Position) : Prop := x.state = .waiting ∨ x.state = .runOn

/-- Each waiting list holds, each at most once, exactly those positions in WAITING or RUN_ON whose active tool is a member
of that group (R130). -/
def listsOk (s : State) : Prop :=
  ∀ gno g, s.group? gno = some g → g.waiting.Nodup ∧
    ∀ p : Fin 12, p ∈ g.waiting ↔
      (s.position p).waits ∧ ∃ t, s.tool? (s.position p).active = some t ∧ t.group = gno

/-- Mounted and reserved tools are of the kind their position seats (R6, R134). -/
def kindsOk (s : State) : Prop :=
  ∀ n t, s.tool? n = some t → ∀ p, (t.placement = .mounted p ∨ t.placement = .reserved p) → t.kind = seatKind p

/-- The active tool of a RUN_ON position is defined and grouped: only the exhausted group of a tool makes its position
RUN_ON (R129, R130, R135). -/
def runOnsOk (s : State) : Prop :=
  ∀ p : Fin 12, (s.position p).state = .runOn → ∃ t, s.tool? (s.position p).active = some t ∧ t.group ≠ 0

/-- The part as one whole: tables, chains, seats, lists and kinds agree. -/
def cellOk (s : State) : Prop :=
  tableWf s.tools = true ∧ tableWf s.groups = true ∧ chainsOk s ∧ seatsOk s ∧ listsOk s ∧ kindsOk s ∧ runOnsOk s

end Sys2Proof.Machine
end

