-- ==== Sys2Proof/Certificates/Slice0/Obligations.lean ====
section
/-! DEFINITION. The statements for the provers. Each names the rules of spec/ it rests on. -/

open Sys2Proof Sys2Proof.Machine

/-! ### The part as a whole -/

/-- A step takes the command at the front of the queue, with the queue's rest (the task's convention for a block; R136). -/
def Obligations.FrontCommandIsExecuted : Prop :=
  ∀ (c : Instr) (rest : List Instr) (s : State), s.pending = c :: rest → step s = exec c (s.withPending rest)

/-- On an empty queue one millisecond passes (R141, R142, R155, R166; the model's choice of log entry 7): the clock rises
and wraps, each ORDERED position counts down and expires at 0, each expiry makes its SWAP_TIMEOUT notice, in the order of
the positions, and the link's gap is counted to 5 ms. Where no timer expires the notices stand. A part without power
stands, by the model's choice of log entry 6. -/
def Obligations.IdleMillisecondPasses : Prop :=
  ∀ s : State, s.pending = [] →
    (s.powered = false → step s = .next s) ∧
    (s.powered = true → ∃ t, step s = .next t ∧ t.clock = (s.clock + 1) % 2 ^ 32 ∧
      (∀ p : Fin 12, t.position p =
        if (s.position p).state = .ordered then
          if (s.position p).timer ≤ 1 then { s.position p with state := .timedOut, timer := 0 }
          else { s.position p with timer := (s.position p).timer - 1 }
        else s.position p) ∧
      t.notices = (allPositions.filter fun p => decide ((s.position p).state = .ordered ∧ (s.position p).timer ≤ 1)).foldl
        (fun q p => q.push true ⟨.swapTimeout, some (stationOf p), some (seatKind p), (s.position p).active,
          s.tagOf (s.position p).active, (s.position p).sister, s.tagOf (s.position p).sister, t.clock⟩) s.notices ∧
      t.link =
        (if s.link.state = .assemble then
          if 4 ≤ s.link.gap then { s.link with state := .hunt, buffer := [], gap := 0 }
          else { s.link with gap := s.link.gap + 1 }
        else s.link) ∧
      onlyChanges [.clock, .positions, .notices, .link, .journal] s t)

/-- Every command answers a next state and leaves the waiting commands alone: the part has no fault and refuses nothing
by stopping (R12, R171). Without power every command but POWER_ON leaves the state as it is (log entry 6). -/
def Obligations.EveryCommandAnswersAndKeepsQueue : Prop :=
  ∀ (c : Instr) (s : State), ∃ t, exec c s = .next t ∧ t.pending = s.pending ∧
    (s.powered = false → (∀ x, c ≠ .powerOn x) → t = s)

/-! ### Power -/

/-- POWER_ON, also on a part that has power (log entry 6),
starts every block from its reset values (R23, R31, R105, R113, R116, R133, R150, R155, R162, R164, R166). The
LOW filtered levels of a present station and the slot 0 of an emptied ring are the model's choice, log entries 13 and 14. -/
def Obligations.PowerOnStartsEveryBlock : Prop :=
  ∀ (s : State) (x : Straps), tableWf s.tools = true → ∃ t, exec (.powerOn x) s = .next t ∧
    t.powered = true ∧ t.clock = 0 ∧ t.configs = s.configs ∧ t.pending = s.pending ∧
    (∀ n, t.tool? n = (s.tool? n).map fun y =>
      if ∃ p, y.placement = .reserved p then { y with placement := .store } else y) ∧
    (∀ n, t.group? n = (s.group? n).map fun g => { g with waiting := [] }) ∧
    (∀ st : Fin 6, t.monitor st = monitorAfterReset (if (s.config st).present then .settling else .off)) ∧
    (∀ st : Fin 6, t.capture st = ⟨[], 0, .none, none, 0⟩ ∧
      t.incident st = ⟨false, none, none, 0, none, none, 0, 0, 0, false⟩ ∧
      t.flag st = ⟨(s.config st).present, false, false⟩) ∧
    t.notices = ⟨[], [], false, false, 0, true, true, 1⟩ ∧
    t.link = ⟨nodeAddress x, rateOf x.rateHigh x.rateLow, .hunt, [], 0, none, false⟩ ∧
    (∀ p : Fin 12, (∀ n y, s.tool? n = some y → y.placement ≠ .mounted p) → t.position p = ⟨.empty, 0, 0, 0⟩) ∧
    (∀ p n y, s.tool? n = some y → y.placement = .mounted p →
      (∀ m z, s.tool? m = some z → z.placement = .mounted p → m = n) →
      t.position p = ⟨if y.condition = .sound ∨ y.condition = .warned then .serving else .due, n, 0, 0⟩)

/-- POWER_FAIL leaves each unfinished commit's records without its changes and the records of the older commits with all of
theirs (R22); what is not retained keeps its last value until power returns, by log entry 6. The commits that an event
leaves behind: a dress end two, the wheel's share first (R78); a reservation one, with the group's cursor (R127), a RUN_ON
one of its tool; CONFIRM_SWAP, DEFINE_GROUP, DELETE_GROUP, CLEAR_TABLES and SET_STATION one for all that they write
themselves (R123, R125, R150, R174, R45), and a tool request one of its tool. The journal that holds them and the
order of one event's commits are the model's, log entry 3. -/
def Obligations.PowerFailUndoesUnfinishedCommits : Prop :=
  (∀ (s : State) (k : Nat), s.powered = true → tablesOk s → ∃ t, exec (.powerFail k) s = .next t ∧
    t.powered = false ∧ t.journal = [] ∧ onlyChanges [.powered, .tools, .groups, .configs, .journal] s t ∧
    (∀ n, t.tool? n = heldBefore (RetainedWrite.toolBefore n) s.journal k (s.tool? n)) ∧
    (∀ n, t.group? n = heldBefore (RetainedWrite.groupBefore n) s.journal k (s.group? n)) ∧
    ∀ st, t.config st = heldBefore (RetainedWrite.configBefore st) s.journal k (s.config st)) ∧
  (∀ (s t : State) (p : Fin 12) (x : Tool) (g : Group), t = s.selection p → s.tool? (s.position p).active = some x →
    x.group ≠ 0 → s.group? x.group = some g →
    (∀ i n y, s.scan g = some i → g.chain[i]? = some n → s.tool? n = some y →
      t.journal = [.tool n (some y), .group x.group (some g)] :: s.journal) ∧
    (s.scan g = none → t.journal =
      if x.condition = .spent ∧ g.action = .runOn ∧ x.used < x.overrunCeiling g.overrunPercent then
        [.tool (s.position p).active (some x)] :: s.journal
      else s.journal)) ∧
  (∀ (s t : State) (st : Fin 6) (power ae : Code) (raw : Lines) (l : Latched) (x w : Tool),
    s.powered = true → (s.monitor st).state = .dress → (s.monitor st).primed = true → (s.monitor st).op = some l →
    l.kind = .dress → l.dresser ≠ 0 → l.void = false → s.tool? l.dresser = some x →
    (s.monitor st).filtered.dress = true → (s.monitor st).differing.dress = true → raw.dress = false →
    ¬((s.monitor st).filtered.pass = false ∧ (s.monitor st).differing.pass = true ∧ raw.pass = true) →
    ¬((s.monitor st).filtered.partEnd = false ∧ (s.monitor st).differing.partEnd = true ∧ raw.partEnd = true) →
    s.tool? l.wheel = some w → l.wheel ≠ l.dresser → exec (.sample st power ae raw) s = .next t →
    t.journal =
      if l.wheel ≠ 0 ∧ l.wheelVoid = false then [[.tool l.dresser (some x)], [.tool l.wheel (some w)]]
      else [[.tool l.dresser (some x)]]) ∧
  ∀ (s t : State), s.powered = true → answeredOk s t →
    (exec .clearTables s = .next t → t.journal = [[.tables s.tools s.groups]]) ∧
    (∀ (station present eMin blank air stale action timeout : Nat) (st : Fin 6), station = st.val →
      exec (.setStation station present eMin blank air stale action timeout) s = .next t →
      t.journal = [[.config st (s.config st)]]) ∧
    (∀ group g, s.group? group = some g → exec (.deleteGroup group) s = .next t →
      t.journal = [.group group (some g) :: g.chain.map fun n => .tool n (s.tool? n)]) ∧
    (∀ (group kind len : Nat) (chain : List Nat) (policy margin action percent b un ov cl : Nat) (old c : List Nat),
      old = (match s.group? group with | some g => g.chain | none => []) → c = chain.take len →
      exec (.defineGroup group kind len chain policy margin action percent b un ov cl) s = .next t →
      t.journal.getLast? = some (.group group (s.group? group) ::
        ((old.filter fun n => decide (n ∉ c)) ++ c).map fun n => .tool n (s.tool? n))) ∧
    (∀ (p : Fin 12) (tool : Nat) (x : Position), x = s.position p → exec (.confirmSwap p.val tool) s = .next t →
      t.journal.getLast? =
        some [.tool x.active (s.tool? x.active), .tool x.sister (s.tool? x.sister), .tool tool (s.tool? tool)]) ∧
    ∀ (tool stock selector position : Nat) (c : Instr), c ∈
      [.deleteTool tool, .renewTool tool stock, .withdrawTool tool, .reinstateTool tool, .clearReference tool selector,
        .mount position tool] → exec c s = .next t → t.journal.getLast? = some [.tool tool (s.tool? tool)]

/-! ### The link -/

/-- DECODE AND ENCODE AGREE for every request: the body that carries a well-formed request has the length of Table 10-3, and
reading it gives the request back (R165, R169, R172). -/
def Obligations.RequestBodiesRoundTrip : Prop :=
  ∀ (c : Instr) (code : Nat) (body : List Byte), c.wf = true → encodeRequest c = some (code, body) →
    requestLength code = some body.length ∧ decodeRequest code body = some c

/-- A whole frame that carries a well-formed request to this node does, in HUNT, exactly what the request does (R165 to
R169; that requests are rows of their own beside a frame's is the model's choice, log entries 11 and 12). -/
def Obligations.WholeFrameIsItsRequest : Prop :=
  ∀ (s : State) (c : Instr) (frame : List Byte), s.powered = true → s.link.state = .hunt → s.link.address ≤ 15 →
    c.wf = true → encodeFrame s.link.address c = some frame → exec (.requestFrame frame) s = exec c s

/-- A whole frame is checked before it is taken (R168, R169): a wrong CRC, then a foreign address, discard it without a reply
and without any other change; an unknown code, then a wrong length, are answered and change nothing. -/
def Obligations.FramesAreCheckedFirst : Prop :=
  ∀ (s : State) (frame : List Byte), s.powered = true → s.link.state = .hunt → isWholeFrame frame = true →
    ∃ t, exec (.requestFrame frame) s = .next t ∧
      (if field frame (frame.length - 2) 2 ≠ (crc16 ((frame.drop 1).take (frame.length - 3))).toNat ∨
          field frame 1 1 ≠ s.link.address then
        t.link = { s.link with state := .hunt, buffer := [], gap := 0 } ∧ onlyChanges [.link, .journal] s t
      else match requestLength (field frame 3 1) with
        | none => refused s t .unknownRequest
        | some len => if frame.length ≠ 6 + len then refused s t .badLength else t.link.state = .reply)

/-- The port moves as R166 and R169 give. HUNT takes the lead byte alone; ASSEMBLE stores a character, drops the frame on an
error or a length above 240, and completes it at byte 6 + n; EXECUTE and REPLY discard it. GAP_TIMEOUT discards a partial
frame, and REPLY_COMPLETE returns the port from REPLY to HUNT; neither does anything else. How
EXECUTE and REPLY pass is the model's choice, log entry 10. -/
def Obligations.PortAssemblesAndAnswers : Prop :=
  ∀ s : State, s.powered = true →
    (∀ (char : Byte) (error : Bool), ∃ t, exec (.receivedCharacter char error) s = .next t ∧
      match s.link.state with
      | .hunt => onlyChanges [.link, .journal] s t ∧
          t.link = if error = false ∧ char = 0xD5#8 then { s.link with state := .assemble, buffer := [char], gap := 0 }
            else s.link
      | .assemble =>
          if error = true ∨ (2 ≤ s.link.buffer.length ∧ 240 < field (s.link.buffer ++ [char]) 2 1) then
            onlyChanges [.link, .journal] s t ∧ t.link = { s.link with state := .hunt, buffer := [], gap := 0 }
          else if 2 ≤ s.link.buffer.length ∧ s.link.buffer.length + 1 = 6 + field (s.link.buffer ++ [char]) 2 1 then
            ∃ u, exec (.requestFrame (s.link.buffer ++ [char])) { s with link := { s.link with state := .hunt } } = .next u ∧
              (s.link.buffer.head? = some 0xD5#8 → t = u)
          else onlyChanges [.link, .journal] s t ∧ t.link = { s.link with buffer := s.link.buffer ++ [char], gap := 0 }
      | .execute => onlyChanges [.journal] s t
      | .reply => onlyChanges [.journal] s t) ∧
    (∃ t, exec .gapTimeout s = .next t ∧ onlyChanges [.link, .journal] s t ∧
      t.link = if s.link.state = .assemble then { s.link with state := .hunt, buffer := [], gap := 0 } else s.link) ∧
    ((s.link.state = .reply → s.link.resetPending = false) → ∃ t, exec .replyComplete s = .next t ∧
      onlyChanges [.link, .journal] s t ∧
      t.link = if s.link.state = .reply then { s.link with state := .hunt, buffer := [], gap := 0 } else s.link)

/-- RESET_SUPERVISOR is answered OK and changes nothing until its reply has been sent; then every block is set as at
power-on, with the node address and the line rate kept (R173), and the positions are rebuilt from the mounted tools
(R150). When a reply counts as sent is the model's choice, log entry 10; so are the LOW filtered levels of a present
station and the slot 0 of an emptied ring, log entries 13 and 14. -/
def Obligations.SupervisorResetWaitsForItsReply : Prop :=
  ∀ s : State, s.powered = true →
    (∃ t, exec .resetSupervisor s = .next t ∧ onlyChanges [.link, .journal] s t ∧
      t.link =
        { s.link with
          state := .reply
          buffer := []
          gap := 0
          resetPending := true
          reply := some ⟨s.summaryByte, .ok, []⟩ }) ∧
    (s.link.state = .reply → s.link.resetPending = true → tableWf s.tools = true →
      ∃ t, exec .replyComplete s = .next t ∧
      t.link = { s.link with state := .hunt, buffer := [], gap := 0, resetPending := false } ∧
      t.powered = true ∧ t.clock = 0 ∧ t.configs = s.configs ∧ t.pending = s.pending ∧
      (∀ n, t.tool? n = (s.tool? n).map fun y =>
        if ∃ p, y.placement = .reserved p then { y with placement := .store } else y) ∧
      (∀ n, t.group? n = (s.group? n).map fun g => { g with waiting := [] }) ∧
      (∀ st : Fin 6, t.monitor st = monitorAfterReset (if (s.config st).present then .settling else .off) ∧
        t.capture st = ⟨[], 0, .none, none, 0⟩ ∧
        t.incident st = ⟨false, none, none, 0, none, none, 0, 0, 0, false⟩ ∧
        t.flag st = ⟨(s.config st).present, false, false⟩) ∧
      t.notices = ⟨[], [], false, false, 0, true, true, 1⟩ ∧
      (∀ p : Fin 12, (∀ n y, s.tool? n = some y → y.placement ≠ .mounted p) → t.position p = ⟨.empty, 0, 0, 0⟩) ∧
      ∀ p n y, s.tool? n = some y → y.placement = .mounted p →
        (∀ m z, s.tool? m = some z → z.placement = .mounted p → m = n) →
        t.position p = ⟨if y.condition = .sound ∨ y.condition = .warned then .serving else .due, n, 0, 0⟩)

/-! ### The station monitor -/

/-- A SAMPLE does nothing to the state of another station (R28), and nothing at all to a station whose monitor is OFF (R26).
While an operation runs on, each sample is written to the capture ring (R28, R116), steps the sample count and the blanking
counter, and adds the power code of a live pass whose power channel is clear (R29, R30). Past the blanking, a live operation
gives the AE code to the burst check, whose run rises, ends, or reaches N; then the BURST detection, with the run's peak and
the ring index of this sample, is taken at this sample, in one commit of its tool (R88, R89, R94, R98). Both codes go to the
stuck check, whose counters rise, start again, or reach the stale window; then the channel latches, with SENSOR and an
urgent SENSOR_FAULT notice under HOLD, a routine one under DEGRADE, the power channel's first, and an AE latch ends the run
(R90, R100, R101). A blanked or ignored sample leaves both checks (R41). -/
def Obligations.SampleKeepsToItsStation : Prop :=
  (∀ (s : State) (st : Fin 6) (power ae : Code) (raw : Lines), s.powered = true →
    ∃ t, exec (.sample st power ae raw) s = .next t ∧
      onlyChanges [.tools, .groups, .monitors, .captures, .incidents, .flags, .positions, .notices, .journal] s t ∧
      (∀ other : Fin 6, other ≠ st → t.monitor other = s.monitor other ∧ t.capture other = s.capture other ∧
        t.incident other = s.incident other ∧ t.flag other = s.flag other) ∧
      ((s.monitor st).state = .off → onlyChanges [.journal] s t)) ∧
  ∀ (s v : State) (st : Fin 6) (power ae : Code) (raw : Lines) (l : Latched) (k : CheckParams) (m : Monitor) (n peak : Nat)
    (kind : Kind) (given taken above reached powerLatch aeLatch hold : Bool)
    (stuck : ChannelState → Code → ChannelState) (faultNotice : Code → Nat → Notice),
    s.powered = true → m = s.monitor st → m.primed = true → m.op = some l →
    (m.state = .pass ∧ l.kind = .pass ∨ m.state = .dress ∧ l.kind = .dress) →
    m.differing.pass = false → m.differing.dress = false →
    ¬(m.filtered.partEnd = false ∧ m.differing.partEnd = true ∧ raw.partEnd = true) →
    (n, kind) = (match l.kind with | .pass => (l.wheel, .wheel) | .dress => (l.dresser, .dresser)) →
    (n ≠ 0 → l.check = some k) →
    (m.power.previous = none → m.power.stuck = 0) → (m.ae.previous = none → m.ae.stuck = 0) →
    given = (decide (n ≠ 0) && decide (m.blanking = 0)) →
    taken = (given && !l.void && !m.ae.fault && !m.burstDone) →
    above = (taken && decide (k.threshold < ae.toNat)) →
    reached = (above && decide (k.persistence ≤ m.burstCounter + 1)) →
    peak = (if m.burstCounter = 0 then ae.toNat else max m.runPeak ae.toNat) →
    (∀ x code, stuck x code =
      if given = false ∨ x.fault = true then x
      else if x.previous = some code then
        if x.stuck + 1 < l.staleWindow then { x with stuck := x.stuck + 1 } else ⟨none, 0, true⟩
      else ⟨some code, 0, false⟩) →
    powerLatch = ((stuck m.power power).fault && !m.power.fault) → aeLatch = ((stuck m.ae ae).fault && !m.ae.fault) →
    hold = decide ((s.config st).action = .hold) →
    (∀ code channel, faultNotice code channel = ⟨.sensorFault, some st, none, 0, 0, code.toNat, channel, s.clock⟩) →
    v = (if reached then
          (s.setCapture st ((s.capture st).write (power, ae))).takeDetection
            ⟨st, kind, n, .burst, peak, l.passClass, (s.capture st).next⟩
        else s.setCapture st ((s.capture st).write (power, ae))) →
    ∃ t, exec (.sample st power ae raw) s = .next t ∧ onlyChanges [.monitors, .flags, .notices, .journal] v t ∧
      (t.monitor st).state = m.state ∧ (t.monitor st).op = some l ∧ (t.monitor st).air = m.air ∧
      (t.monitor st).sampleCount = min 4294967295 (m.sampleCount + 1) ∧ (t.monitor st).blanking = m.blanking - 1 ∧
      (t.monitor st).lastIndex = (s.capture st).next ∧
      (t.monitor st).energy =
        (if l.kind = .pass ∧ n ≠ 0 ∧ m.power.fault = false then min 4294967295 (m.energy + power.toNat) else m.energy) ∧
      (t.monitor st).power = stuck m.power power ∧ (t.monitor st).ae = stuck m.ae ae ∧
      (t.monitor st).powerFaultMark = (m.powerFaultMark || decide (l.kind = .pass) && (stuck m.power power).fault) ∧
      (t.monitor st).burstDone = (m.burstDone || reached) ∧
      (t.monitor st).burstCounter =
        (if aeLatch || reached then 0 else if above then m.burstCounter + 1 else if taken then 0 else m.burstCounter) ∧
      (t.monitor st).runPeak =
        (if aeLatch || reached then 0 else if above then peak else if taken then 0 else m.runPeak) ∧
      oneBecomes st (if hold && (powerLatch || aeLatch) then { s.flag st with sensor := true } else s.flag st) s.flags
        t.flags ∧
      (∀ q, q = (if powerLatch then v.notices.push hold (faultNotice power 0) else v.notices) →
        t.notices = if aeLatch then q.push hold (faultNotice ae 1) else q) ∧
      (reached = false → t.journal = []) ∧ (reached = true → t.journal.getLast? = some [.tool n (s.tool? n)])

/-- A filtered level takes a new value only when the raw level differs from it at two consecutive samples (R25). The first
sample after SETTLING was entered from OFF or through a reset gives the filter its starting point: all five levels are
the raw ones, without a rise or a fall, and PASS and DRESS both LOW take the monitor to IDLE (R26, R32). -/
def Obligations.LinesFilterOverTwoSamples : Prop :=
  (∀ (s : State) (st : Fin 6) (p1 a1 p2 a2 : Code) (raw1 raw2 : Lines), s.powered = true →
    (s.monitor st).state ≠ .off → (s.monitor st).primed = true → (s.monitor st).differing = Lines.low →
    ∃ t u, exec (.sample st p1 a1 raw1) s = .next t ∧ exec (.sample st p2 a2 raw2) t = .next u ∧
      (t.monitor st).filtered = (s.monitor st).filtered ∧
      ∀ line : Lines → Bool, line ∈ [Lines.pass, Lines.dress, Lines.partEnd, Lines.class1, Lines.class0] →
        line (u.monitor st).filtered =
          if line raw1 ≠ line (s.monitor st).filtered ∧ line raw2 ≠ line (s.monitor st).filtered then line raw2
          else line (s.monitor st).filtered) ∧
  ∀ (s : State) (st : Fin 6) (power ae : Code) (raw : Lines), s.powered = true →
    (s.monitor st).state = .settling → (s.monitor st).primed = false →
    ∃ t, exec (.sample st power ae raw) s = .next t ∧ onlyChanges [.monitors, .captures, .journal] s t ∧
      oneBecomes st
        { s.monitor st with
          filtered := raw
          differing := ⟨false, false, false, false, false⟩
          primed := true
          state := if raw.pass = false ∧ raw.dress = false then .idle else .settling } s.monitors t.monitors ∧
      oneBecomes st ((s.capture st).write (power, ae)) s.captures t.captures

/-- In IDLE a rise of PASS alone starts a pass, a rise of DRESS alone a dress, and each latches what R33 and R34 list. The
energy, the sample count, the power-fault mark and the burst check start from zero, the blanking counter from B, and the
rise sample is the operation's first: it does what it does in an operation that stands there already (R27, R29, R30, R87). -/
def Obligations.OperationStartLatches : Prop :=
  ∀ (s : State) (st : Fin 6) (power ae : Code) (raw : Lines), s.powered = true →
    (s.monitor st).state = .idle → (s.monitor st).primed = true →
    (s.monitor st).filtered.pass = false → (s.monitor st).filtered.dress = false →
    ¬((s.monitor st).filtered.partEnd = false ∧ (s.monitor st).differing.partEnd = true ∧ raw.partEnd = true) →
    ∃ t, exec (.sample st power ae raw) s = .next t ∧
      (((s.monitor st).differing.pass && raw.pass) = true → ((s.monitor st).differing.dress && raw.dress) = false →
        (t.monitor st).state = .pass ∧ (t.monitor st).sampleCount = 1 ∧
        (t.monitor st).blanking = (s.config st).blank - 1 ∧
        (t.monitor st).energy =
          (if (s.position (wheelPos st)).active ≠ 0 ∧ (s.monitor st).power.fault = false then power.toNat else 0) ∧
        (t.monitor st).op = some
          { kind := .pass
            passClass := some (classOf ((s.monitor st).filteredNext raw))
            wheel := (s.position (wheelPos st)).active
            dresser := 0
            eMin := (s.config st).eMin
            blank := (s.config st).blank
            staleWindow := (s.config st).staleWindow
            check := (s.tool? (s.position (wheelPos st)).active).map fun x => ⟨x.threshold, x.persistence⟩
            judge := (s.tool? (s.position (wheelPos st)).active).map fun x =>
              ⟨x.learnCount, x.shift, x.lowBound, x.highBound⟩
            depth := none
            nominal := none
            void := false
            wheelVoid := false } ∧
        (t.monitor st).powerFaultMark = (t.monitor st).power.fault ∧
        (0 < (s.config st).blank → (t.monitor st).burstCounter = 0 ∧ (t.monitor st).runPeak = 0 ∧
          (t.monitor st).burstDone = false) ∧
        exec (.sample st power ae raw) s = exec (.sample st power ae raw) (s.setMonitor st
          { s.monitor st with
            state := .pass
            filtered := (s.monitor st).filteredNext raw
            differing := Lines.low
            op := (t.monitor st).op
            energy := 0
            powerFaultMark := false
            sampleCount := 0
            blanking := (s.config st).blank
            burstCounter := 0
            runPeak := 0
            burstDone := false })) ∧
      (((s.monitor st).differing.dress && raw.dress) = true → ((s.monitor st).differing.pass && raw.pass) = false →
        (t.monitor st).state = .dress ∧ (t.monitor st).sampleCount = 1 ∧
        (t.monitor st).blanking = (s.config st).blank - 1 ∧ (t.monitor st).energy = 0 ∧
        (t.monitor st).powerFaultMark = false ∧
        (t.monitor st).op = some
          { kind := .dress
            passClass := none
            wheel := (s.position (wheelPos st)).active
            dresser := (s.position (dresserPos st)).active
            eMin := 0
            blank := (s.config st).blank
            staleWindow := (s.config st).staleWindow
            check := (s.tool? (s.position (dresserPos st)).active).map fun x => ⟨x.threshold, x.persistence⟩
            judge := none
            depth := (s.tool? (s.position (wheelPos st)).active).map fun x => x.dressDepth
            nominal := (s.tool? (s.position (dresserPos st)).active).map fun x => x.nominalDepth
            void := false
            wheelVoid := false } ∧
        (0 < (s.config st).blank → (t.monitor st).burstCounter = 0 ∧ (t.monitor st).runPeak = 0 ∧
          (t.monitor st).burstDone = false) ∧
        exec (.sample st power ae raw) s = exec (.sample st power ae raw) (s.setMonitor st
          { s.monitor st with
            state := .dress
            filtered := (s.monitor st).filteredNext raw
            differing := Lines.low
            op := (t.monitor st).op
            energy := 0
            powerFaultMark := false
            sampleCount := 0
            blanking := (s.config st).blank
            burstCounter := 0
            runPeak := 0
            burstDone := false }))

/-- Rises of PASS and DRESS at one sample in IDLE go straight to CONFLICT, start and latch nothing, and make a routine
SIGNAL_CONFLICT notice with tool 0, position kind none and operation NONE (R35). -/
def Obligations.BothLinesRiseTogether : Prop :=
  ∀ (s : State) (st : Fin 6) (power ae : Code) (raw : Lines), s.powered = true →
    (s.monitor st).state = .idle → (s.monitor st).primed = true →
    (s.monitor st).filtered.pass = false → (s.monitor st).filtered.dress = false →
    (s.monitor st).differing.pass = true → raw.pass = true → (s.monitor st).differing.dress = true → raw.dress = true →
    ∃ t, exec (.sample st power ae raw) s = .next t ∧
      (t.monitor st).state = .conflict ∧ (t.monitor st).op = (s.monitor st).op ∧
      (t.monitor st).energy = (s.monitor st).energy ∧ (t.monitor st).sampleCount = (s.monitor st).sampleCount ∧
      t.notices =
        (if (s.monitor st).filtered.partEnd = false ∧ (s.monitor st).differing.partEnd = true ∧ raw.partEnd = true then
          (s.partEnd st).notices
        else s.notices).push false ⟨.signalConflict, some st, none, 0, 0, 0, 0, s.clock⟩

/-- In PASS a rise of DRESS, and in DRESS a rise of PASS, discards the operation: the monitor is in CONFLICT, no tool and no
position is changed, and a routine SIGNAL_CONFLICT notice names the latched tool, if there was one (R38). CONFLICT, like
SETTLING, is left for IDLE at the first sample whose filtered PASS and DRESS are both LOW, and starts and ends no
operation and makes no notice (R32, R39). -/
def Obligations.LinesBothHighDiscardOperation : Prop :=
  (∀ (s : State) (st : Fin 6) (power ae : Code) (raw : Lines) (l : Latched), s.powered = true →
    (s.monitor st).primed = true → (s.monitor st).op = some l →
    ¬((s.monitor st).filtered.partEnd = false ∧ (s.monitor st).differing.partEnd = true ∧ raw.partEnd = true) →
    ((s.monitor st).state = .pass ∧ l.kind = .pass ∧ (s.monitor st).filtered.pass = true ∧
        (s.monitor st).differing.pass = false ∧
        (s.monitor st).filtered.dress = false ∧ (s.monitor st).differing.dress = true ∧ raw.dress = true ∨
      (s.monitor st).state = .dress ∧ l.kind = .dress ∧ (s.monitor st).filtered.dress = true ∧
        (s.monitor st).differing.dress = false ∧
        (s.monitor st).filtered.pass = false ∧ (s.monitor st).differing.pass = true ∧ raw.pass = true) →
    ∃ t, exec (.sample st power ae raw) s = .next t ∧ (t.monitor st).state = .conflict ∧
      (t.monitor st).op = some l ∧ (t.monitor st).energy = (s.monitor st).energy ∧
      (t.monitor st).air = (s.monitor st).air ∧
      onlyChanges [.monitors, .captures, .notices, .journal] s t ∧
      ∀ n, n = (match l.kind with | .pass => l.wheel | .dress => l.dresser) →
        t.notices = s.notices.push false
          ⟨.signalConflict, some st,
            if n = 0 then none else some (match l.kind with | .pass => .wheel | .dress => .dresser), n, s.tagOf n, 0,
            match l.kind with | .pass => 1 | .dress => 2, s.clock⟩) ∧
  ∀ (s : State) (st : Fin 6) (power ae : Code) (raw : Lines), s.powered = true →
    (s.monitor st).primed = true → ((s.monitor st).state = .settling ∨ (s.monitor st).state = .conflict) →
    ¬((s.monitor st).filtered.partEnd = false ∧ (s.monitor st).differing.partEnd = true ∧ raw.partEnd = true) →
    ∃ t, exec (.sample st power ae raw) s = .next t ∧ onlyChanges [.monitors, .captures, .journal] s t ∧
      (t.monitor st).op = (s.monitor st).op ∧ (t.monitor st).energy = (s.monitor st).energy ∧
      (t.monitor st).sampleCount = (s.monitor st).sampleCount ∧
      (t.monitor st).state =
        (if (t.monitor st).filtered.pass = false ∧ (t.monitor st).filtered.dress = false then .idle
        else (s.monitor st).state) ∧
      oneBecomes st ((s.capture st).write (power, ae)) s.captures t.captures

/-! ### Passes and dresses -/

/-- The outcome of a pass is that of the first test of R50's table that holds, with the clamped ratio of R53, and its weight
is that of R55. Its detection, if any, is CONTACT_LOSS with the count reached, UNDERLOAD or OVERLOAD with the ratio (R64,
R66). The learning step counts the pass and completes the run at the latched L with the mean (R57, R58); the smoothing step
moves a reference toward the energy by the difference divided by 2^k, truncated toward zero (R62). -/
def Obligations.PassArithmetic : Prop :=
  ∀ (mark : Bool) (energy eMin low high k learnCount r : Nat) (ref : ClassRef) (o : PassOutcome), low ≤ high →
    r = min 65535 (energy * 1024 / ref.value) → o = passOutcome mark energy eMin ref low high →
    (o = .unjudged ↔ mark = true) ∧
    (o = .air ↔ mark = false ∧ energy < eMin) ∧
    (o = .learning ↔ mark = false ∧ eMin ≤ energy ∧ ref.state ≠ .learned) ∧
    (o = .underload ↔ mark = false ∧ eMin ≤ energy ∧ ref.state = .learned ∧ r < low) ∧
    (o = .overload ↔ mark = false ∧ eMin ≤ energy ∧ ref.state = .learned ∧ high < r) ∧
    (o = .good ↔ mark = false ∧ eMin ≤ energy ∧ ref.state = .learned ∧ low ≤ r ∧ r ≤ high) ∧
    (passWeight o r = none ↔ o = .air) ∧
    (∀ w, passWeight o r = some w → 256 ≤ w ∧ w ≤ 4096 ∧
      w = if o = .unjudged ∨ o = .learning then 1024 else max 256 (min 4096 r)) ∧
    (∀ (air airLimit v : Nat) (cls : DetClass), passDetection o r air airLimit = some (cls, v) ↔
      o = .air ∧ airLimit ≤ air + 1 ∧ cls = .contactLoss ∧ v = air + 1 ∨
        o = .underload ∧ cls = .underload ∧ v = r ∨ o = .overload ∧ cls = .overload ∧ v = r) ∧
    ((ref.learn energy learnCount).n = ref.n + 1 ∧ (ref.learn energy learnCount).sum = ref.sum + energy ∧
      (learnCount ≤ ref.n + 1 → (ref.learn energy learnCount).state = .learned ∧
        (ref.learn energy learnCount).value = (ref.sum + energy) / (ref.n + 1)) ∧
      (ref.n + 1 < learnCount → (ref.learn energy learnCount).state = .learning ∧
        (ref.learn energy learnCount).value = ref.value)) ∧
    ((ref.smooth energy k).state = ref.state ∧ (ref.smooth energy k).n = ref.n ∧ (ref.smooth energy k).sum = ref.sum ∧
      (ref.value ≤ energy → (ref.smooth energy k).value = ref.value + (energy - ref.value) / 2 ^ k) ∧
      (energy ≤ ref.value → (ref.smooth energy k).value = ref.value - (ref.value - energy) / 2 ^ k))

/-- A fall of PASS, or a part end in PASS, ends a live pass: its wheel is charged the weight of the outcome, saturating, and
its class reference takes the learning or the smoothing step unless an incident is open (R36, R40, R49, R56, R59, R63, R73).
A completed run makes a routine LEARNED notice (R58), the detection of R64 and R66 is tallied and taken with the last pass
sample as its trigger, and the charge's recompute comes last: the condition of R9, its WARN or SPENT notice, and the
hand-over that puts the SERVING position of a wheel made SPENT DUE (R11, R49, R137), which a part end then selects for
(PartEndSelectsAndRescans); a dress that starts at the same sample may add its own. No other field of the record but
condition, tallies and placement can differ, the AIR counter moves as R64 gives, and all of the wheel's changes are one
commit. -/
def Obligations.PassEndChargesTheWheel : Prop :=
  ∀ (s : State) (st : Fin 6) (power ae : Code) (raw : Lines) (l : Latched) (j : JudgeParams) (c : Fin 4) (x : Tool)
    (o : PassOutcome) (r : Nat) (fall part rise : Bool) (found : Option (DetClass × Nat)),
    s.powered = true → (s.monitor st).state = .pass → (s.monitor st).primed = true → (s.monitor st).op = some l →
    l.kind = .pass → l.wheel ≠ 0 → l.void = false → l.judge = some j → l.passClass = some c →
    s.tool? l.wheel = some x → (s.monitor st).filtered.pass = true →
    fall = ((s.monitor st).differing.pass && !raw.pass) →
    part = (!(s.monitor st).filtered.partEnd && (s.monitor st).differing.partEnd && raw.partEnd) →
    (fall || part) = true →
    rise = (!(s.monitor st).filtered.dress && (s.monitor st).differing.dress && raw.dress) →
    o = passOutcome (s.monitor st).powerFaultMark (s.monitor st).energy l.eMin x.refs[c] j.lowBound j.highBound →
    r = passRatio (s.monitor st).energy x.refs[c].value →
    found = passDetection o r (s.monitor st).air (s.config st).airLimit →
    ∃ t y, exec (.sample st power ae raw) s = .next t ∧ t.tool? l.wheel = some y ∧
      y = { x with used := y.used, refs := y.refs, condition := y.condition, tallies := y.tallies,
                   placement := y.placement } ∧
      y.used = (match passWeight o r with | some w => min 4294967295 (x.used + w) | none => x.used) ∧
      (∀ d : Fin 4, y.refs[d] =
        if d = c ∧ (s.incident st).isOpen = false then
          match o with
          | .learning => x.refs[c].learn (s.monitor st).energy j.learnCount
          | .good => x.refs[c].smooth (s.monitor st).energy j.shift
          | .unjudged => x.refs[c]
          | .air => x.refs[c]
          | .underload => x.refs[c]
          | .overload => x.refs[c]
        else x.refs[d]) ∧
      (t.monitor st).air =
        (if o = .air ∧ (s.monitor st).air + 1 < (s.config st).airLimit then (s.monitor st).air + 1 else 0) ∧
      t.journal.getLast? = some [.tool l.wheel (some x)] ∧
      ((fall && rise) = true → (t.monitor st).state = .dress) ∧
      ((fall && rise) = false → (t.monitor st).state = (if fall then .idle else .settling) ∧
        y.tallies =
          (match found with
          | none => x.tallies
          | some (.burst, _) => { x.tallies with burst := min 65535 (x.tallies.burst + 1) }
          | some (.underload, _) => { x.tallies with underload := min 65535 (x.tallies.underload + 1) }
          | some (.overload, _) => { x.tallies with overload := min 65535 (x.tallies.overload + 1) }
          | some (.contactLoss, _) => { x.tallies with contactLoss := min 65535 (x.tallies.contactLoss + 1) }) ∧
        ∃ (u v : State) (z : Tool), onlyChanges [.tools, .monitors, .notices, .journal] s u ∧
          toolBecomes l.wheel (some { x with refs := y.refs }) s u ∧
          u.notices =
            (if (s.incident st).isOpen = false ∧ o = .learning ∧ j.learnCount ≤ x.refs[c].n + 1 then
              s.notices.push false ⟨.learned, some st, some .wheel, l.wheel, x.tag, y.refs[c].value, c.val, s.clock⟩
            else s.notices) ∧
          v = (match found with
            | none => u
            | some (cls, value) =>
              u.takeDetection ⟨st, .wheel, l.wheel, cls, value, some c, (s.monitor st).lastIndex⟩) ∧
          v.tool? l.wheel = some z ∧ t.incidents = v.incidents ∧
          oneBecomes st ((v.capture st).write (power, ae)) v.captures t.captures ∧
          (part = false → y.placement = z.placement ∧
            match passWeight o r with
            | some _ => recomputeLeaves v t l.wheel z.condition y
            | none => y.condition = z.condition ∧ t.notices = v.notices ∧ t.groups = v.groups ∧
                t.positions = v.positions))

/-- A fall of DRESS, or a part end in DRESS, ends a live dress: the wheel loses the latched depth and counts the dress,
unless none was latched or its share is void; the dresser is charged the stroke weight of R77 and counts the dress (R37,
R40, R42, R75, R77). Each charge is followed by its recompute, the wheel's first: the condition of R9, the WARN or SPENT
notice, and the hand-over that puts the SERVING position of a tool made SPENT DUE (R11, R78, R137), which a part end then
selects for (PartEndSelectsAndRescans). An ignored or void operation of either kind ends without charging anything (R41). -/
def Obligations.DressEndChargesBothTools : Prop :=
  (∀ (s : State) (st : Fin 6) (power ae : Code) (raw : Lines) (l : Latched) (nominal : Nat) (x : Tool)
    (fall part rise : Bool),
    s.powered = true → (s.monitor st).state = .dress → (s.monitor st).primed = true → (s.monitor st).op = some l →
    l.kind = .dress → l.dresser ≠ 0 → l.void = false → l.nominal = some nominal → s.tool? l.dresser = some x →
    (s.monitor st).filtered.dress = true →
    fall = ((s.monitor st).differing.dress && !raw.dress) →
    part = (!(s.monitor st).filtered.partEnd && (s.monitor st).differing.partEnd && raw.partEnd) →
    (fall || part) = true →
    rise = (!(s.monitor st).filtered.pass && (s.monitor st).differing.pass && raw.pass) →
    ∃ t, exec (.sample st power ae raw) s = .next t ∧
      (t.monitor st).state = (if fall then if rise then .pass else .idle else .settling) ∧
      (l.wheel = 0 → ∃ y, t.tool? l.dresser = some y ∧ y.used = min 4294967295 (x.used + 1024) ∧
        y = { x with used := y.used, dressCount := min 4294967295 (x.dressCount + 1), condition := y.condition,
                     tallies := y.tallies, placement := y.placement } ∧
        (part = false → rise = false → y.tallies = x.tallies ∧ y.placement = x.placement ∧
          recomputeLeaves s t l.dresser x.condition y)) ∧
      (∀ w depth, l.wheel ≠ 0 → l.wheel ≠ l.dresser → l.depth = some depth → s.tool? l.wheel = some w →
        ∃ y v, t.tool? l.dresser = some y ∧ t.tool? l.wheel = some v ∧
          y.used = min 4294967295 (x.used + max 256 (min 4096 (depth * 1024 / nominal))) ∧
          y = { x with used := y.used, dressCount := min 4294967295 (x.dressCount + 1), condition := y.condition,
                       tallies := y.tallies, placement := y.placement } ∧
          (l.wheelVoid = true → v.stock = w.stock ∧ v.dressCount = w.dressCount) ∧
          (l.wheelVoid = false → v.stock = w.stock - depth ∧ v.dressCount = min 4294967295 (w.dressCount + 1)) ∧
          v = { w with stock := v.stock, dressCount := v.dressCount, condition := v.condition, tallies := v.tallies,
                       placement := v.placement } ∧
          (part = false → rise = false →
            y.tallies = x.tallies ∧ y.placement = x.placement ∧ v.tallies = w.tallies ∧ v.placement = w.placement ∧
            (l.wheelVoid = true → v.condition = w.condition ∧ recomputeLeaves s t l.dresser x.condition y) ∧
            (l.wheelVoid = false → ∃ u, onlyChanges [.tools, .groups, .positions, .notices, .journal] s u ∧
              recomputeLeaves s u l.wheel w.condition v ∧ recomputeLeaves u t l.dresser x.condition y)))) ∧
  ∀ (s : State) (st : Fin 6) (power ae : Code) (raw : Lines) (l : Latched) (m : Monitor), s.powered = true →
    m = s.monitor st → m.primed = true → m.op = some l →
    (m.state = .pass ∧ l.kind = .pass ∧ m.filtered.pass = true ∧ m.differing.pass = true ∧ raw.pass = false ∧
        ¬(m.filtered.dress = false ∧ m.differing.dress = true ∧ raw.dress = true) ∨
      m.state = .dress ∧ l.kind = .dress ∧ m.filtered.dress = true ∧ m.differing.dress = true ∧ raw.dress = false ∧
        ¬(m.filtered.pass = false ∧ m.differing.pass = true ∧ raw.pass = true)) →
    ¬(m.filtered.partEnd = false ∧ m.differing.partEnd = true ∧ raw.partEnd = true) →
    (l.void = true ∨ (match l.kind with | .pass => l.wheel | .dress => l.dresser) = 0) →
    ∃ t, exec (.sample st power ae raw) s = .next t ∧ onlyChanges [.monitors, .captures, .journal] s t ∧
      (t.monitor st).state = .idle ∧ (t.monitor st).op = some l ∧ (t.monitor st).energy = m.energy ∧
      (t.monitor st).sampleCount = m.sampleCount ∧ (t.monitor st).air = m.air ∧
      oneBecomes st ((s.capture st).write (power, ae)) s.captures t.captures

/-! ### Detections, faults and captures -/

/-- BURST: where the run of a live operation has reached N, the burst-done mark is set, the run is zeroed, and the detection
is taken in one commit of its tool (R89, R98). Where it has not, nothing changes but the journal (log entry 8). A detection
of any class books the response of its tool's group, or the default of R93, raises its tally, and is a repeat at a station
with an open incident (R94, R107), else it is ignored, reported, or opens an incident with its urgent notice and its
capture FILLING (R95, R96, R106); CONDEMN then makes the tool BROKEN, and a SERVING, DUE, WAITING or RUN_ON position that it
is mounted at goes to selection (R97, R137). -/
def Obligations.BurstIsAnswered : Prop :=
  (∀ (s : State) (d : Detection) (x : Tool), s.tool? d.tool = some x →
    (x.group = 0 → s.responseTo d =
      match d.cls with | .burst => .suspend | .underload => .suspend | .overload => .report | .contactLoss => .suspend) ∧
    ∀ g, x.group ≠ 0 → s.group? x.group = some g → s.responseTo d =
      match d.cls with
      | .burst => g.responses.burst
      | .underload => g.responses.underload
      | .overload => g.responses.overload
      | .contactLoss => g.responses.contactLoss) ∧
  (∀ (s t : State) (d : Detection) (x y : Tool), d.tool ≠ 0 → s.tool? d.tool = some x → t = s.takeDetection d →
    y = { x with tallies :=
            match d.cls with
            | .burst => { x.tallies with burst := min 65535 (x.tallies.burst + 1) }
            | .underload => { x.tallies with underload := min 65535 (x.tallies.underload + 1) }
            | .overload => { x.tallies with overload := min 65535 (x.tallies.overload + 1) }
            | .contactLoss => { x.tallies with contactLoss := min 65535 (x.tallies.contactLoss + 1) } } →
    ((s.incident d.station).isOpen = true →
      onlyChanges [.tools, .incidents] s t ∧ toolBecomes d.tool (some y) s t ∧
      oneBecomes d.station
        { s.incident d.station with
          repeats := min 255 ((s.incident d.station).repeats + 1)
          otherTool := (s.incident d.station).otherTool || d.tool != (s.incident d.station).tool }
        s.incidents t.incidents) ∧
    ((s.incident d.station).isOpen = false → s.responseTo d = .ignore →
      onlyChanges [.tools] s t ∧ toolBecomes d.tool (some y) s t) ∧
    ((s.incident d.station).isOpen = false → s.responseTo d = .report →
      onlyChanges [.tools, .notices] s t ∧ toolBecomes d.tool (some y) s t ∧
      t.notices = s.notices.push false ⟨.detection, some d.station, some d.posKind, d.tool, x.tag, d.value,
        d.cls.code * 256 + (match d.passClass with | some c => c.val | none => 255), s.clock⟩) ∧
    ((s.incident d.station).isOpen = false → s.responseTo d = .suspend ∨ s.responseTo d = .condemn →
      ∃ u, onlyChanges [.tools, .incidents, .captures, .notices] s u ∧
        toolBecomes d.tool (some { y with
          condition := if s.responseTo d = .condemn then .broken else x.condition }) s u ∧
        oneBecomes d.station
          ⟨true, some d.cls, some (s.responseTo d), d.tool, some d.posKind, d.passClass, d.value, s.clock, 0, false⟩
          s.incidents u.incidents ∧
        oneBecomes d.station { s.capture d.station with state := .filling, trigger := some d.trigger, post := 0 }
          s.captures u.captures ∧
        u.notices = s.notices.push true ⟨.incident, some d.station, some d.posKind, d.tool, x.tag, d.value,
          d.cls.code * 256 + (s.responseTo d).code, s.clock⟩ ∧
        ((∀ p, s.responseTo d = .condemn → x.condition ≠ .broken → x.placement = .mounted p →
            (s.position p).state = .serving ∨ (s.position p).state = .due ∨ (s.position p).state = .waiting ∨
              (s.position p).state = .runOn →
            t = u.selection p) ∧
          ((s.responseTo d = .condemn → x.condition = .broken ∨ ∀ p, x.placement = .mounted p →
              (s.position p).state = .empty ∨ (s.position p).state = .ordered ∨ (s.position p).state = .timedOut ∨
                (s.position p).state = .halted) →
            t = u)))) ∧
  ∀ (s : State) (st : Fin 6) (m : Monitor) (reached : Latched → Prop), s.powered = true → m = s.monitor st →
    (∀ l, reached l ↔ m.op = some l ∧ (m.state = .pass ∨ m.state = .dress) ∧
      (match l.kind with | .pass => l.wheel | .dress => l.dresser) ≠ 0 ∧ l.void = false ∧ m.ae.fault = false ∧
      m.burstDone = false ∧ 0 < m.burstCounter ∧ ∃ k, l.check = some k ∧ k.persistence ≤ m.burstCounter) →
    ∃ t, exec (.burst st) s = .next t ∧ ((∀ l, ¬reached l) → onlyChanges [.journal] s t) ∧
      ∀ (l : Latched) (d : Detection), reached l →
        d = ⟨st, match l.kind with | .pass => .wheel | .dress => .dresser,
          match l.kind with | .pass => l.wheel | .dress => l.dresser, .burst, m.runPeak, l.passClass, m.lastIndex⟩ →
        ∃ v, onlyChanges [.monitors, .journal] s v ∧ v.journal = [[.tool d.tool (s.tool? d.tool)]] ∧
          oneBecomes st { m with burstDone := true, burstCounter := 0, runPeak := 0 } s.monitors v.monitors ∧
          t = v.takeDetection d

/-- CHANNEL_FAULT_LATCH: where the last sample of a live operation was past its first B, and the stuck counter of an
unfaulted channel, so increased, has reached the latched stale window, the flag latches with the counter 0 and no previous
code, and the fault is answered by the station's action: SENSOR and an urgent notice under HOLD, a routine notice under
DEGRADE (R29, R41, R90, R100, R101). Where it has not, nothing changes but the journal (log entry 8). -/
def Obligations.ChannelFaultLatches : Prop :=
  ∀ (s : State) (st : Fin 6) (c : Channel) (m : Monitor) (x : ChannelState) (due : Prop), s.powered = true →
    m = s.monitor st → x = (match c with | .power => m.power | .ae => m.ae) →
    (due ↔ ∃ l, m.op = some l ∧ (m.state = .pass ∨ m.state = .dress) ∧
      (match l.kind with | .pass => l.wheel | .dress => l.dresser) ≠ 0 ∧ l.blank < m.sampleCount ∧
      x.fault = false ∧ 0 < x.stuck ∧ l.staleWindow ≤ x.stuck) →
    ∃ t, exec (.channelFaultLatch st c) s = .next t ∧ (¬due → onlyChanges [.journal] s t) ∧
      ∀ code, due → x.previous = some code →
        oneBecomes st
          (match c with
          | .power => { m with
              power := ⟨none, 0, true⟩
              powerFaultMark := m.powerFaultMark || m.state == .pass }
          | .ae => { m with ae := ⟨none, 0, true⟩, burstCounter := 0, runPeak := 0 }) s.monitors t.monitors ∧
        onlyChanges [.monitors, .flags, .notices, .journal] s t ∧
        oneBecomes st (if (s.config st).action = .hold then { s.flag st with sensor := true } else s.flag st) s.flags
          t.flags ∧
        t.notices = s.notices.push (decide ((s.config st).action = .hold))
          ⟨.sensorFault, some st, none, 0, 0, code.toNat, match c with | .power => 0 | .ae => 1, s.clock⟩

/-- CAPTURE_FREEZE freezes a FILLING capture whose post-trigger count has reached 256 (log entry 8), and changes nothing
else. From a trigger just written, 255 further samples leave the capture FILLING and the 256th freezes it; the frozen ring's
trigger index is its length less 257, and the trigger sample stands there (R116, R117, R119). -/
def Obligations.CaptureFreezesOnItsTrigger : Prop :=
  (∀ (s : State) (st : Fin 6), s.powered = true → ∃ t, exec (.captureFreeze st) s = .next t ∧
    onlyChanges [.captures, .journal] s t ∧
    oneBecomes st
      (if (s.capture st).state = .filling ∧ 256 ≤ (s.capture st).post then { s.capture st with state := .frozen }
        else s.capture st) s.captures t.captures) ∧
  ∀ (c : Capture) (slot : Nat) (first : Code × Code) (older after : List (Code × Code)),
    c.state = .filling → c.trigger = some slot → slot < 1024 → c.next = (slot + 1) % 1024 → c.post = 0 →
    c.samples = first :: older → c.samples.length ≤ 1024 →
    (after.length ≤ 255 → (after.foldl Capture.write c).state = .filling) ∧
    (after.length = 256 →
      (after.foldl Capture.write c).state = .frozen ∧
      (after.foldl Capture.write c).samples.length = min 1024 (c.samples.length + 256) ∧
      (after.foldl Capture.write c).triggerIndex + 257 = (after.foldl Capture.write c).samples.length ∧
      (after.foldl Capture.write c).samples.reverse[(after.foldl Capture.write c).triggerIndex]? = some first)

/-- SWAP_TIMER_EXPIRY: an ORDERED position goes TIMED_OUT with its timer at 0 and its reservation standing, and an urgent
SWAP_TIMEOUT notice names the outgoing tool and the sister (R142). That the timer's figure is not looked at, and that any
other position stays as it is, is the model's choice (log entry 9). -/
def Obligations.SwapTimerExpires : Prop :=
  ∀ (s : State) (p : Fin 12), s.powered = true → ∃ t, exec (.swapTimerExpiry p) s = .next t ∧
    onlyChanges [.positions, .notices, .journal] s t ∧
    oneBecomes p
      (if (s.position p).state = .ordered then { s.position p with state := .timedOut, timer := 0 } else s.position p)
      s.positions t.positions ∧
    t.notices =
      if (s.position p).state = .ordered then
        s.notices.push true ⟨.swapTimeout, some (stationOf p), some (seatKind p), (s.position p).active,
          s.tagOf (s.position p).active, (s.position p).sister, s.tagOf (s.position p).sister, s.clock⟩
      else s.notices

/-! ### The tool requests -/

/-- The figures that R70, R71 and R72 derive from a record, and its life condition (R8). -/
def Obligations.LifeFiguresAndCondition : Prop :=
  ∀ (x : Tool) (percent : Nat),
    x.limitUnits = 1024 * x.limit ∧ 100 * x.warnUnits ≤ 1024 * x.limit * x.warnPercent ∧
    1024 * x.limit * x.warnPercent < 100 * (x.warnUnits + 1) ∧
    (1024 * x.limit ≤ x.used → x.remainingPasses = 0) ∧
    (x.used < 1024 * x.limit → x.used + 1024 * x.remainingPasses ≤ 1024 * x.limit ∧
      1024 * x.limit < x.used + 1024 * (x.remainingPasses + 1)) ∧
    (x.overrunCeiling percent = 4294967295 ↔ 4294967295 ≤ 1024 * x.limit + 1024 * x.limit * percent / 100) ∧
    (1024 * x.limit + 1024 * x.limit * percent / 100 < 4294967295 →
      x.overrunCeiling percent = 1024 * x.limit + 1024 * x.limit * percent / 100) ∧
    (x.lifeCondition = .spent ↔ 1024 * x.limit ≤ x.used ∨ x.kind = .wheel ∧ x.stock < x.dressDepth) ∧
    (x.lifeCondition = .warned ↔
      x.used < 1024 * x.limit ∧ ¬(x.kind = .wheel ∧ x.stock < x.dressDepth) ∧ x.warnUnits ≤ x.used) ∧
    (x.lifeCondition = .sound ↔
      x.used < 1024 * x.limit ∧ ¬(x.kind = .wheel ∧ x.stock < x.dressDepth) ∧ x.used < x.warnUnits)

/-- DEFINE_TOOL refuses an identifier out of range, then a defined number; else it makes the record of R13, with the defaults
and the clamps of Table 1-1 and the condition of a forced recompute, and changes nothing else (R12, R13). -/
def Obligations.DefineToolMakesTheRecord : Prop :=
  ∀ (s : State) (tool kind tag limit warn thr n l k low high stock depth nominal : Nat), s.powered = true →
    ∃ t, exec (.defineTool tool kind tag limit warn thr n l k low high stock depth nominal) s = .next t ∧
      if tool = 0 ∨ 128 < tool ∨ 1 < kind then refused s t .badValue
      else if s.tool? tool ≠ none then refused s t .alreadyDefined
      else
        takenOk s t
          (if limit = 0 ∨ 4000000 < limit ∨ (warn ≠ 0 ∧ (warn < 50 ∨ 99 < warn)) ∨ 4095 < thr ∨ 64 < n ∨ 16 < l ∨ 8 < k ∨
              (low ≠ 0 ∧ (low < 128 ∨ 1023 < low)) ∨ (high ≠ 0 ∧ (high < 1025 ∨ 8191 < high)) ∨
              (kind = 0 ∧ (20000 < stock ∨ 200 < depth)) ∨ (kind = 1 ∧ 200 < nominal)
            then .adjusted else .ok) [.tools] ∧
        ∃ x : Tool, toolBecomes tool (some x) s t ∧
          x =
            { kind := if kind = 0 then .wheel else .dresser
              tag := tag
              group := 0
              placement := .store
              condition := if kind = 0 ∧ x.stock < x.dressDepth then .spent else .sound
              limit := max 1 (min 4000000 limit)
              warnPercent := if warn = 0 then 90 else max 50 (min 99 warn)
              used := 0
              threshold := if thr = 0 then 3000 else min 4095 thr
              persistence := if n = 0 then 8 else min 64 n
              learnCount := if l = 0 then 4 else min 16 l
              shift := if k = 0 then 4 else min 8 k
              lowBound := if low = 0 then 614 else max 128 (min 1023 low)
              highBound := if high = 0 then 1638 else max 1025 (min 8191 high)
              stock := if kind = 0 then min 20000 stock else 0
              dressDepth := if kind = 1 then 0 else if depth = 0 then 5 else min 200 depth
              nominalDepth := if kind = 0 then 0 else if nominal = 0 then 5 else min 200 nominal
              dressCount := 0
              refs := Vector.replicate 4 ⟨.unlearned, 0, 0, 0⟩
              tallies := ⟨0, 0, 0, 0⟩ }

/-- ADJUST_TOOL: the refusals of R12 and R14 in their order; an empty change set changes nothing; else the named fields are
written clamped, a new L drops the unfinished learning runs, an ordinary recompute follows with its notice (R11, R15), a
mounted tool's position moves as R137 gives, and a stored tool that becomes eligible makes an eligibility event (R15, R81).
That an empty change set makes no recompute, and when the event is made, is the model's reading, log entry 16. -/
def Obligations.AdjustToolWritesNamedFields : Prop :=
  ∀ (s : State) (tool bits tag limit warn thr n l k low high depth : Nat), s.powered = true →
    ∃ t, exec (.adjustTool tool bits tag limit warn thr n l k low high depth) s = .next t ∧
      if tool = 0 ∨ 128 < tool ∨ 1024 ≤ bits then refused s t .badValue
      else match s.tool? tool with
        | none => refused s t .notDefined
        | some x =>
          if ∃ p, x.placement = .reserved p then refused s t .busy
          else if bits = 0 then takenOk s t .ok []
          else
            ∀ (named : Nat → Nat → Nat → Nat → Nat → Nat) (y : Tool),
              (∀ b held lo hi v, named b held lo hi v = if bits.testBit b then max lo (min hi v) else held) →
              y = { x with
                    tag := if bits.testBit 0 then tag else x.tag
                    limit := named 1 x.limit 1 4000000 limit
                    warnPercent := named 2 x.warnPercent 50 99 warn
                    threshold := named 3 x.threshold 1 4095 thr
                    persistence := named 4 x.persistence 1 64 n
                    learnCount := named 5 x.learnCount 1 16 l
                    shift := named 6 x.shift 1 8 k
                    lowBound := named 7 x.lowBound 128 1023 low
                    highBound := named 8 x.highBound 1025 8191 high
                    dressDepth := if x.kind = .wheel then named 9 x.dressDepth 1 200 depth else x.dressDepth
                    nominalDepth := if x.kind = .dresser then named 9 x.nominalDepth 1 200 depth else x.nominalDepth
                    refs := y.refs
                    condition := y.condition } →
              (∀ c : Fin 4, y.refs[c] =
                if y.learnCount = x.learnCount ∨ x.refs[c].state = .learned then x.refs[c] else ⟨.unlearned, 0, 0, 0⟩) →
              y.condition = (match x.condition with
                | .broken => .broken
                | .withdrawn => .withdrawn
                | .overrun => if y.lifeCondition = .spent then .overrun else y.lifeCondition
                | .sound => y.lifeCondition
                | .warned => y.lifeCondition
                | .spent => y.lifeCondition) →
              ∃ u, onlyChanges [.link, .journal, .tools, .groups, .positions, .notices] s u ∧
                replied s u
                  (if (bits.testBit 1 ∧ (limit = 0 ∨ 4000000 < limit)) ∨ (bits.testBit 2 ∧ (warn < 50 ∨ 99 < warn)) ∨
                      (bits.testBit 3 ∧ (thr = 0 ∨ 4095 < thr)) ∨ (bits.testBit 4 ∧ (n = 0 ∨ 64 < n)) ∨
                      (bits.testBit 5 ∧ (l = 0 ∨ 16 < l)) ∨ (bits.testBit 6 ∧ (k = 0 ∨ 8 < k)) ∨
                      (bits.testBit 7 ∧ (low < 128 ∨ 1023 < low)) ∨ (bits.testBit 8 ∧ (high < 1025 ∨ 8191 < high)) ∨
                      (bits.testBit 9 ∧ (depth = 0 ∨ 200 < depth))
                    then .adjusted else .ok) [] ∧
                toolBecomes tool (some y) s u ∧
                u.notices =
                  (if x.condition = .sound ∧ y.condition = .warned then
                    s.notices.push false ⟨.warn, x.placement.seat.1, x.placement.seat.2, tool, y.tag, y.used, 0, s.clock⟩
                  else if (x.condition = .sound ∨ x.condition = .warned) ∧ y.condition = .spent then
                    s.notices.push false ⟨.spent, x.placement.seat.1, x.placement.seat.2, tool, y.tag,
                      if 1024 * y.limit ≤ y.used then y.used else y.stock, if 1024 * y.limit ≤ y.used then 0 else 1,
                      s.clock⟩
                  else s.notices) ∧
                (x.placement = .store → u.groups = s.groups ∧ u.positions = s.positions ∧
                  if s.eligibleNow x = false ∧ s.eligibleNow y = true then t = u.eligibilityEvent x.group else t = u) ∧
                ∀ p, x.placement = .mounted p → t = u ∧
                  if x.condition ≠ .spent ∧ y.condition = .spent ∧ (s.position p).state = .serving then
                    u.groups = s.groups ∧
                    oneBecomes p ⟨.due, (s.position p).active, 0, 0⟩ s.positions u.positions
                  else if (x.condition = .spent ∨ x.condition = .overrun) ∧ y.condition.serviceable = true ∧
                      ((s.position p).state = .due ∨ (s.position p).state = .waiting ∨ (s.position p).state = .runOn) then
                    oneBecomes p ⟨.serving, (s.position p).active, 0, 0⟩ s.positions u.positions ∧
                    ((s.position p).active = tool → ∀ m, u.group? m =
                      if m = x.group then
                        (s.group? m).map fun g => { g with waiting := g.waiting.filter fun q => decide (q ≠ p) }
                      else s.group? m)
                  else u.groups = s.groups ∧ u.positions = s.positions

/-- READ_TOOL refuses an identifier out of range, then an undefined number; else it returns the 98 bytes of Table 10-6 and
changes nothing (R16, R175). -/
def Obligations.ReadToolReturnsTheRecord : Prop :=
  ∀ (s : State) (tool : Nat), s.powered = true → ∃ t, exec (.readTool tool) s = .next t ∧
    if tool = 0 ∨ 128 < tool then refused s t .badValue
    else match s.tool? tool with
      | none => refused s t .notDefined
      | some x =>
        ∃ body, replied s t .ok body ∧ onlyChanges [.link, .journal] s t ∧ body.length = 98 ∧
          bodyHolds body
            [(0, 1, tool), (1, 1, x.kind.code), (2, 2, x.tag), (4, 1, x.group), (5, 1, x.placement.code),
              (6, 1, x.placement.positionCode), (7, 1, x.condition.code), (8, 4, x.limit), (12, 1, x.warnPercent),
              (13, 4, x.used), (17, 2, x.threshold), (19, 1, x.persistence), (20, 1, x.learnCount), (21, 1, x.shift),
              (22, 2, x.lowBound), (24, 2, x.highBound), (26, 2, x.stock), (28, 1, x.dressDepth), (29, 1, x.nominalDepth),
              (30, 4, x.dressCount), (34, 2, x.tallies.burst), (36, 2, x.tallies.underload), (38, 2, x.tallies.overload),
              (40, 2, x.tallies.contactLoss), (86, 4, x.limitUnits), (90, 4, x.warnUnits), (94, 4, x.remainingPasses)] ∧
          ∀ c : Fin 4, bodyHolds body
            [(42 + 11 * c.val, 1, x.refs[c].state.code), (43 + 11 * c.val, 1, x.refs[c].n), (44 + 11 * c.val, 5, x.refs[c].sum),
              (49 + 11 * c.val, 4, x.refs[c].value)]

/-- DELETE_TOOL: the refusals of R12 and R17 in their order; else the record becomes undefined, and every incident that names
the tool has its tool field set to 0 (R17, R108). -/
def Obligations.DeleteToolMakesItUndefined : Prop :=
  ∀ (s : State) (tool : Nat), s.powered = true → tableWf s.tools = true → ∃ t, exec (.deleteTool tool) s = .next t ∧
    if tool = 0 ∨ 128 < tool then refused s t .badValue
    else match s.tool? tool with
      | none => refused s t .notDefined
      | some x =>
        if x.placement ≠ .store then refused s t .busy
        else if x.group ≠ 0 then refused s t .conflict
        else takenOk s t .ok [.tools, .incidents] ∧ toolBecomes tool none s t ∧
          ∀ st, t.incident st =
            if (s.incident st).tool = tool then { s.incident st with tool := 0 } else s.incident st

/-- RENEW_TOOL: the refusals of R12 and R18 in their order; else the record is put back to the start of its life, a wheel
with the carried stock, and an eligibility event is reported for the tool's group, whether or not it is eligible (R18). -/
def Obligations.RenewToolStartsItsLifeAgain : Prop :=
  ∀ (s : State) (tool stock : Nat), s.powered = true → (∀ x, s.tool? tool = some x → x.inRange) →
    ∃ t, exec (.renewTool tool stock) s = .next t ∧
      if tool = 0 ∨ 128 < tool then refused s t .badValue
      else match s.tool? tool with
        | none => refused s t .notDefined
        | some x =>
          if x.placement ≠ .store then refused s t .busy
          else
            ∃ u, takenOk s u (if x.kind = .wheel ∧ 20000 < stock then .adjusted else .ok) [.tools] ∧
              toolBecomes tool (some { x with
                used := 0
                dressCount := 0
                tallies := ⟨0, 0, 0, 0⟩
                refs := Vector.replicate 4 ⟨.unlearned, 0, 0, 0⟩
                stock := if x.kind = .wheel then min 20000 stock else x.stock
                condition := if x.kind = .wheel ∧ min 20000 stock < x.dressDepth then .spent else .sound }) s u ∧
              t = if x.group = 0 then u else u.eligibilityEvent x.group

/-- WITHDRAW_TOOL and REINSTATE_TOOL: the refusals of R12, R19 and R20 in their order; a withdrawn tool only changes its
condition; a reinstated one has its references UNLEARNED and its life condition, and reports an eligibility event if it is
now eligible (R19, R20). -/
def Obligations.WithdrawAndReinstateTool : Prop :=
  ∀ (s : State) (tool : Nat), s.powered = true →
    (∃ t, exec (.withdrawTool tool) s = .next t ∧
      if tool = 0 ∨ 128 < tool then refused s t .badValue
      else match s.tool? tool with
        | none => refused s t .notDefined
        | some x =>
          if x.placement ≠ .store then refused s t .busy
          else takenOk s t .ok [.tools] ∧ toolBecomes tool (some { x with condition := .withdrawn }) s t) ∧
    ∃ t, exec (.reinstateTool tool) s = .next t ∧
      if tool = 0 ∨ 128 < tool then refused s t .badValue
      else match s.tool? tool with
        | none => refused s t .notDefined
        | some x =>
          if x.placement ≠ .store then refused s t .busy
          else if x.condition ≠ .broken ∧ x.condition ≠ .withdrawn then refused s t .wrongState
          else
            ∃ u y, takenOk s u .ok [.tools] ∧ toolBecomes tool (some y) s u ∧
              y = { x with refs := Vector.replicate 4 ⟨.unlearned, 0, 0, 0⟩, condition := x.lifeCondition } ∧
              t = if s.eligibleNow y then u.eligibilityEvent x.group else u

/-- CLEAR_REFERENCE: BAD_VALUE for a tool number or a selector out of range, NOT_DEFINED; else, in every placement and
condition, the selected references become UNLEARNED and nothing else changes (R21). -/
def Obligations.ClearReferenceUnlearns : Prop :=
  ∀ (s : State) (tool selector : Nat), s.powered = true → ∃ t, exec (.clearReference tool selector) s = .next t ∧
    if tool = 0 ∨ 128 < tool ∨ (3 < selector ∧ selector ≠ 255) then refused s t .badValue
    else match s.tool? tool with
      | none => refused s t .notDefined
      | some x =>
        takenOk s t .ok [.tools] ∧ ∃ y, toolBecomes tool (some y) s t ∧ y = { x with refs := y.refs } ∧
          ∀ c : Fin 4, y.refs[c] =
            if selector = 255 ∨ selector = c.val then ⟨.unlearned, 0, 0, 0⟩ else x.refs[c]

/-- CLEAR_TABLES is BUSY while any tool is not in STORE; else both tables are undefined, every incident's tool field is 0,
and the configuration records are not touched (R24, R174). -/
def Obligations.ClearTablesEmptiesBoth : Prop :=
  ∀ s : State, s.powered = true → ∃ t, exec .clearTables s = .next t ∧
    ((∃ e ∈ s.tools, e.2.placement ≠ .store) → refused s t .busy) ∧
    ((∀ e ∈ s.tools, e.2.placement = .store) →
      takenOk s t .ok [.tools, .groups, .incidents] ∧ (∀ n, t.tool? n = none) ∧ (∀ n, t.group? n = none) ∧
      ∀ st, t.incident st = { s.incident st with tool := 0 })

/-! ### Groups and the sister selector -/

/-- DEFINE_GROUP: the checks of R122 in their order; else the record of R123 with the cursor at 0 and the kept waiting list,
the group fields of its members and of the dropped tools, the WAITING positions that the chain brings in at the tail, and
one service of the list when a member was made eligible or a position was put in. -/
def Obligations.DefineGroupWritesTheGroup : Prop :=
  ∀ (s : State) (group kind len : Nat) (chain : List Nat) (policy margin action percent b un ov cl : Nat),
    s.powered = true → ∀ (c old : List Nat) (waiting : List (Fin 12)) (k : Kind), c = chain.take len →
    (old, waiting) = (match s.group? group with | some g => (g.chain, g.waiting) | none => ([], [])) →
    k = (if kind = 0 then .wheel else .dresser) →
    ∃ t, exec (.defineGroup group kind len chain policy margin action percent b un ov cl) s = .next t ∧
      if group = 0 ∨ 32 < group ∨ 1 < kind ∨ len = 0 ∨ 8 < len ∨ (∃ n ∈ c, n = 0 ∨ 128 < n) ∨ ¬c.Nodup ∨ 1 < policy ∨
          1 < action ∨ 3 < b ∨ 3 < un ∨ 3 < ov ∨ 3 < cl then refused s t .badValue
      else if ∃ n ∈ c, s.tool? n = none then refused s t .notDefined
      else if ∃ n ∈ c, (s.tool? n).map Tool.kind ≠ some k then refused s t .wrongKind
      else if ∃ n ∈ c, (s.tool? n).map Tool.group ≠ some 0 ∧ (s.tool? n).map Tool.group ≠ some group then
        refused s t .conflict
      else if ∃ n ∈ old, n ∉ c ∧ (s.toolReserved n = true ∨ ∃ p ∈ waiting, (s.position p).active = n) then
        refused s t .busy
      else
        ∃ u seats, seats = (c.filter fun n => decide (n ∉ old)).filterMap (fun n =>
            allPositions.find? fun p => decide ((s.position p).active = n ∧ (s.position p).state = .waiting ∧
              ∀ e ∈ s.groups, p ∉ e.2.waiting)) ∧
          takenOk s u (if 100000 < margin ∨ 50 < percent then .adjusted else .ok) [.tools, .groups] ∧
          (∀ n, u.tool? n =
            if n ∈ c then (s.tool? n).map fun x => { x with group := group }
            else if n ∈ old then (s.tool? n).map fun x => { x with group := 0 }
            else s.tool? n) ∧
          (∃ r, responsesArg b un ov cl = some r ∧ ∀ n, u.group? n =
            if n = group then
              some ⟨k, c, if policy = 0 then .chain else .rotate, 0, min 100000 margin,
                if action = 0 then .hold else .runOn, min 50 percent, r, waiting ++ seats⟩
            else s.group? n) ∧
          t = if seats ≠ [] ∨ ∃ n ∈ c, ((s.tool? n).any fun x => x.eligible (min 100000 margin)) = true ∧
                s.wasEligibleMember group n = false
              then u.eligibilityEvent group else u

/-- READ_GROUP: BAD_VALUE, NOT_DEFINED, or the 112 bytes of Table 10-10, changing nothing (R124, R179).
What a member without a record reads as is the model's choice, log entry 17. -/
def Obligations.ReadGroupReturnsTheRecord : Prop :=
  ∀ (s : State) (group : Nat), s.powered = true →
    (∀ g, s.group? group = some g → g.chain.length ≤ 8 ∧ g.waiting.length ≤ 12) →
    ∃ t, exec (.readGroup group) s = .next t ∧
      if group = 0 ∨ 32 < group then refused s t .badValue
      else match s.group? group with
        | none => refused s t .notDefined
        | some g =>
          ∃ body, replied s t .ok body ∧ onlyChanges [.link, .journal] s t ∧ body.length = 112 ∧
            bodyHolds body
              [(0, 1, group), (1, 1, g.kind.code), (2, 1, g.chain.length), (11, 1, g.policy.code), (12, 1, g.cursor),
                (13, 4, g.margin), (17, 1, g.action.code), (18, 1, g.overrunPercent), (19, 1, g.responses.burst.code),
                (20, 1, g.responses.underload.code), (21, 1, g.responses.overload.code),
                (22, 1, g.responses.contactLoss.code), (23, 1, g.waiting.length)] ∧
            (∀ i, i < 8 → field body (3 + i) 1 = g.chain.getD i 0 % 256) ∧
            (∀ i, i < 12 → match g.waiting[i]? with
              | some p => bodyHolds body [(24 + 2 * i, 1, p.val), (25 + 2 * i, 1, (s.position p).state.code)]
              | none => field body (24 + 2 * i) 2 = 0xFFFF) ∧
            ∀ i, i < 8 → match (g.chain[i]?).bind s.tool? with
              | some x => bodyHolds body
                  [(48 + 8 * i, 1, x.placement.code), (49 + 8 * i, 1, x.placement.positionCode),
                    (50 + 8 * i, 1, x.condition.code), (51 + 8 * i, 4, x.remainingPasses),
                    (55 + 8 * i, 1, if x.eligible g.margin then 1 else 0)]
              | none => field body (48 + 8 * i) 8 = 0

/-- DELETE_GROUP: BAD_VALUE, NOT_DEFINED, BUSY for a group with a waiting position or a RESERVED member; else every member's
group field is 0 and the record is undefined (R125). -/
def Obligations.DeleteGroupFreesItsMembers : Prop :=
  ∀ (s : State) (group : Nat), s.powered = true → tableWf s.groups = true → ∃ t, exec (.deleteGroup group) s = .next t ∧
    if group = 0 ∨ 32 < group then refused s t .badValue
    else match s.group? group with
      | none => refused s t .notDefined
      | some g =>
        if g.waiting ≠ [] ∨ ∃ n ∈ g.chain, s.toolReserved n = true then refused s t .busy
        else takenOk s t .ok [.tools, .groups] ∧
          (∀ n, t.tool? n = if n ∈ g.chain then (s.tool? n).map fun x => { x with group := 0 } else s.tool? n) ∧
          ∀ n, t.group? n = if n = group then none else s.group? n

/-- A scan visits the chain in its policy's order, CHAIN from index 0, ROTATE from the index after the cursor round to it,
and chooses the first member that is in STORE, SOUND or WARNED, with at least the margin of passes remaining (R126, R127).
A tool is eligible now when it is grouped and so under its own group's margin, and the report of such a tool is an
eligibility event for that group, of any other tool nothing (R7, R126, R131); that the report of an undefined tool is nothing
is the model's choice, log entry 17. -/
def Obligations.ScanChoosesFirstEligible : Prop :=
  (∀ (s : State) (g : Group) (order : Nat → Nat) (eligible : Nat → Prop),
    (∀ i, order i = match g.policy with | .chain => i | .rotate => (g.cursor + 1 + i) % g.chain.length) →
    (∀ i, eligible i ↔ ∃ n x, g.chain[i]? = some n ∧ s.tool? n = some x ∧ x.placement = .store ∧
      (x.condition = .sound ∨ x.condition = .warned) ∧ g.margin ≤ (1024 * x.limit - x.used) / 1024) →
    (s.scan g = none ↔ ∀ i < g.chain.length, ¬eligible i) ∧
    ∀ i, s.scan g = some i ↔
      ∃ k < g.chain.length, i = order k ∧ eligible i ∧ ∀ j < k, ¬eligible (order j)) ∧
  ∀ (s : State) (eligible : Tool → Nat → Prop),
    (∀ x margin, eligible x margin ↔ x.placement = .store ∧ (x.condition = .sound ∨ x.condition = .warned) ∧
      margin ≤ (1024 * x.limit - x.used) / 1024) →
    (∀ x margin, x.eligible margin = true ↔ eligible x margin) ∧
    (∀ x, s.eligibleNow x = true ↔ x.group ≠ 0 ∧ ∃ g, s.group? x.group = some g ∧ eligible x g.margin) ∧
    (∀ group n, s.wasEligibleMember group n = true ↔
      ∃ g x, s.group? group = some g ∧ n ∈ g.chain ∧ s.tool? n = some x ∧ eligible x g.margin) ∧
    (∀ n, s.toolReserved n = true ↔ ∃ x p, s.tool? n = some x ∧ x.placement = .reserved p) ∧
    ∀ n, (s.tool? n = none → s.reportIfEligible n = s) ∧
      ∀ x, s.tool? n = some x →
        s.reportIfEligible n = if s.eligibleNow x = true then s.eligibilityEvent x.group else s

/-- A selection for a position: WAITING with a NO_SISTER notice for an ungrouped tool; the chosen member RESERVED and the
position ORDERED with a SWAP_ORDER notice; or, in an exhausted group, RUN_ON or WAITING by R129, in the waiting list. That a
tool whose group is undefined counts as ungrouped is the model's choice, log entry 17. -/
def Obligations.SelectionFollowsItsTables : Prop :=
  ∀ (s t : State) (p : Fin 12) (n : Nat) (x : Tool), t = s.selection p → n = (s.position p).active → s.tool? n = some x →
    (x.group = 0 ∨ s.group? x.group = none →
      onlyChanges [.positions, .notices] s t ∧ oneBecomes p ⟨.waiting, n, 0, 0⟩ s.positions t.positions ∧
      t.notices = s.notices.push true
        ⟨.noSister, some (stationOf p), some (seatKind p), n, s.tagOf n, 0, 0, s.clock⟩) ∧
    ∀ g, x.group ≠ 0 → s.group? x.group = some g →
      (∀ i m y, s.scan g = some i → g.chain[i]? = some m → s.tool? m = some y →
        onlyChanges [.tools, .groups, .positions, .notices, .journal] s t ∧
        toolBecomes m (some { y with placement := .reserved p }) s t ∧
        (∀ k, t.group? k =
          if k = x.group then
            some { g with
              cursor := match g.policy with | .chain => g.cursor | .rotate => i
              waiting := g.waiting.filter fun q => decide (q ≠ p) }
          else s.group? k) ∧
        oneBecomes p ⟨.ordered, n, m, 1000 * (s.config (stationOf p)).swapTimeout⟩ s.positions t.positions ∧
        t.notices = s.notices.push true
          ⟨.swapOrder, some (stationOf p), some (seatKind p), n, s.tagOf n, m, s.tagOf m, s.clock⟩) ∧
      (s.scan g = none →
        onlyChanges [.tools, .groups, .positions, .notices, .journal] s t ∧
        (∀ k, t.group? k =
          if k = x.group then
            some { g with waiting := if p ∈ g.waiting then g.waiting else g.waiting ++ [p] }
          else s.group? k) ∧
        if (x.condition = .spent ∨ x.condition = .overrun) ∧ g.action = .runOn ∧
            x.used < x.overrunCeiling g.overrunPercent then
          toolBecomes n (some { x with condition := .overrun }) s t ∧
          oneBecomes p ⟨.runOn, n, 0, 0⟩ s.positions t.positions ∧
          t.notices = s.notices.push false
            ⟨.runOn, some (stationOf p), some (seatKind p), n, s.tagOf n, x.overrunCeiling g.overrunPercent, 0, s.clock⟩
        else
          t.tools = s.tools ∧ oneBecomes p ⟨.waiting, n, 0, 0⟩ s.positions t.positions ∧
          t.notices = s.notices.push true
            ⟨.noSister, some (stationOf p), some (seatKind p), n, s.tagOf n, x.group, 0, s.clock⟩)

/-- An eligibility event serves the waiting list: the oldest WAITING position gets the scan's choice, and the service goes on
until no WAITING position stands in the list or the group is exhausted. Each service reserves a member for its position
and makes an urgent SWAP_ORDER notice, in the order of the list, and nothing but R131's services happens. -/
def Obligations.EligibilityEventServesTheList : Prop :=
  ∀ (s t : State) (gno : Nat), t = s.eligibilityEvent gno →
    servedTo s t ∧ (s.group? gno = none → t = s) ∧
    ∀ g, s.group? gno = some g →
      (s.scan g = none ∨ (∀ p ∈ g.waiting, (s.position p).state ≠ .waiting) → t = s) ∧
      (∀ h, t.group? gno = some h → t.scan h = none ∨ ∀ p ∈ h.waiting, (t.position p).state ≠ .waiting) ∧
      (∀ (before after : List (Fin 12)) (p : Fin 12) (i n : Nat), g.waiting = before ++ p :: after →
        (∀ q ∈ before, (s.position q).state ≠ .waiting) → (s.position p).state = .waiting → s.scan g = some i →
        g.chain[i]? = some n →
        t.position p = ⟨.ordered, (s.position p).active, n, 1000 * (s.config (stationOf p)).swapTimeout⟩ ∧
        (t.tool? n).map Tool.placement = some (.reserved p)) ∧
      ∃ services : List (Fin 12 × Nat),
        (services.map Prod.fst).Sublist (g.waiting.filter fun p => decide ((s.position p).state = .waiting)) ∧
        (∀ e ∈ services, e.2 ∈ g.chain ∧
          t.position e.1 = ⟨.ordered, (s.position e.1).active, e.2, 1000 * (s.config (stationOf e.1)).swapTimeout⟩ ∧
          (t.tool? e.2).map Tool.placement = some (.reserved e.1)) ∧
        (∀ p, p ∉ services.map Prod.fst → t.position p = s.position p) ∧
        t.notices = services.foldl
          (fun q e => q.push true ⟨.swapOrder, some (stationOf e.1), some (seatKind e.1), (s.position e.1).active,
            s.tagOf (s.position e.1).active, e.2, s.tagOf e.2, s.clock⟩) s.notices

/-- A rise of PART_END, at a sample where PASS and DRESS do not change, hands a part end to the swap controller: the wheel
position first, then the dresser position; a DUE one goes to selection, a RUN_ON one is rescanned, any other stays (R132,
R139). In IDLE, SETTLING and CONFLICT the monitor stays in its state, but for the both-low test; in PASS and DRESS the
operation's end processing comes first, the same as at a fall, and the monitor goes to SETTLING (R40). That a RUN_ON
position whose tool is undefined or in no group is left as it is, is the model's choice, log entry 17. -/
def Obligations.PartEndSelectsAndRescans : Prop :=
  (∀ (s e : State) (st : Fin 6) (power ae : Code) (raw : Lines) (m : Monitor), s.powered = true →
    m = s.monitor st → m.state ≠ .off → m.primed = true →
    m.filtered.partEnd = false → m.differing.partEnd = true → raw.partEnd = true →
    m.differing.pass = false → m.differing.dress = false →
    e = (if m.state = .pass ∨ m.state = .dress then (s.withJournal []).endProcessing st else s.withJournal []) →
    ∀ at' : State → Fin 12 → State,
      (∀ u p, at' u p =
        match (u.position p).state with
        | .due => u.selection p
        | .runOn =>
          (match u.tool? (u.position p).active with
          | none => u
          | some x => match u.groupOf x with
            | none => u
            | some g =>
              if u.scan g = none then
                if g.action = .runOn ∧ x.used < x.overrunCeiling g.overrunPercent then u else u.waitFor p x.group
              else u.selection p)
        | .empty => u
        | .serving => u
        | .ordered => u
        | .timedOut => u
        | .halted => u
        | .waiting => u) →
      ∃ t v, exec (.sample st power ae raw) s = .next t ∧ v = at' (at' e (wheelPos st)) (dresserPos st) ∧
        onlyChanges [.monitors, .captures] v t ∧
        (t.monitor st).state =
          (if m.state = .idle ∨ (m.filtered.pass = false ∧ m.filtered.dress = false) then .idle
          else if m.state = .pass ∨ m.state = .dress then .settling
          else m.state) ∧
        (t.monitor st).op = m.op ∧ oneBecomes st ((v.capture st).write (power, ae)) v.captures t.captures) ∧
  ∀ (s : State) (st : Fin 6) (power ae : Code) (raw : Lines) (m : Monitor), s.powered = true →
    m = s.monitor st → m.primed = true →
    (m.state = .pass ∧ m.filtered.pass = true ∧ m.differing.pass = true ∧ raw.pass = false ∧ m.differing.dress = false ∨
      m.state = .dress ∧ m.filtered.dress = true ∧ m.differing.dress = true ∧ raw.dress = false ∧
        m.differing.pass = false) →
    ¬(m.filtered.partEnd = false ∧ m.differing.partEnd = true ∧ raw.partEnd = true) →
    ∃ t v, exec (.sample st power ae raw) s = .next t ∧ v = (s.withJournal []).endProcessing st ∧
      onlyChanges [.monitors, .captures] v t ∧ (t.monitor st).state = .idle ∧
      oneBecomes st ((v.capture st).write (power, ae)) v.captures t.captures

/-! ### The station requests -/

/-- SET_STATION: BAD_VALUE, BUSY for present no with a position not EMPTY; else the record is written clamped; a station made
present starts in SETTLING with STARTUP set, one made absent goes OFF with its incident closed and its flags clear, and
one that keeps its presence keeps its monitor and flags (R45, R46). The
filter's memory and the slot 0 of the emptied ring are the model's choice, log entries 13 and 14. -/
def Obligations.SetStationWritesTheRecord : Prop :=
  ∀ (s : State) (station present eMin blank air stale action timeout : Nat), s.powered = true →
    ∃ t, exec (.setStation station present eMin blank air stale action timeout) s = .next t ∧
      (5 < station ∨ 1 < present ∨ 1 < action → refused s t .badValue) ∧
      ∀ st : Fin 6, station = st.val → present ≤ 1 → action ≤ 1 →
        if present = 0 ∧ ((s.position (wheelPos st)).state ≠ .empty ∨ (s.position (dresserPos st)).state ≠ .empty) then
          refused s t .busy
        else
          takenOk s t
            (if eMin = 0 ∨ 1048575 < eMin ∨ 255 < blank ∨ air = 0 ∨ 15 < air ∨ stale < 200 ∨ 10000 < stale ∨ timeout < 10 ∨
                3600 < timeout then .adjusted else .ok)
            [.configs, .monitors, .captures, .incidents, .flags] ∧
          oneBecomes st ⟨decide (present = 1), max 1 (min 1048575 eMin), min 255 blank, max 1 (min 15 air),
            max 200 (min 10000 stale), if action = 0 then .hold else .degrade, max 10 (min 3600 timeout)⟩
            s.configs t.configs ∧
          (decide (present = 1) = (s.config st).present → onlyChanges [.link, .journal, .configs] s t) ∧
          (present = 1 → (s.config st).present = false →
            oneBecomes st (monitorAfterReset .settling) s.monitors t.monitors ∧
            oneBecomes st ⟨[], 0, .none, none, 0⟩ s.captures t.captures ∧ t.incidents = s.incidents ∧
            oneBecomes st { s.flag st with startup := true } s.flags t.flags) ∧
          (present = 0 → (s.config st).present = true →
            oneBecomes st (monitorAfterReset .off) s.monitors t.monitors ∧
            oneBecomes st ⟨[], 0, .none, none, 0⟩ s.captures t.captures ∧
            oneBecomes st ⟨false, none, none, 0, none, none, 0, 0, 0, false⟩ s.incidents t.incidents ∧
            oneBecomes st ⟨false, false, false⟩ s.flags t.flags)

/-- READ_STATION: BAD_VALUE, or the 84 bytes of Table 10-9 for a present or an absent station, changing nothing. A field that
the operation's kind has but its start did not latch is a free value and not stated here (R47, R178; log entry 2). -/
def Obligations.ReadStationReturnsTheRecord : Prop :=
  ∀ (s : State) (station : Nat), s.powered = true → ∃ t, exec (.readStation station) s = .next t ∧
    (5 < station → refused s t .badValue) ∧
    ∀ st : Fin 6, station = st.val →
      ∃ body, replied s t .ok body ∧ onlyChanges [.link, .journal] s t ∧ body.length = 84 ∧
        ∀ (c : StationConfig) (m : Monitor) (i : Incident) (w d : Position), c = s.config st → m = s.monitor st →
          i = s.incident st → w = s.position (wheelPos st) → d = s.position (dresserPos st) →
          bodyHolds body
            [(0, 1, station), (1, 1, if c.present then 1 else 0), (2, 4, c.eMin), (6, 1, c.blank), (7, 1, c.airLimit),
              (8, 2, c.staleWindow), (10, 1, c.action.code), (11, 2, c.swapTimeout), (13, 1, m.state.code),
              (14, 1, linesBits m.filtered), (38, 4, m.energy), (42, 1, if m.powerFaultMark then 1 else 0),
              (43, 4, m.sampleCount), (47, 1, m.blanking), (48, 1, m.burstCounter),
              (49, 1, (if m.power.fault then 2 else 0) + if m.ae.fault then 1 else 0), (50, 1, m.air),
              (51, 2, s.holdReasonBits st), (53, 1, if i.isOpen then 1 else 0), (54, 1, (i.cls.map DetClass.code).getD 0),
              (55, 1, (i.response.map Response.code).getD 0), (56, 1, i.tool), (57, 1, (i.posKind.map Kind.code).getD 0),
              (58, 1, classCode i.passClass), (59, 2, i.value), (61, 4, i.time), (65, 1, i.repeats),
              (66, 1, if i.otherTool then 1 else 0), (67, 1, (s.capture st).state.code),
              (68, 2, (s.capture st).samples.length), (70, 1, w.state.code), (71, 1, w.active), (72, 1, w.sister),
              (73, 4, w.timer), (77, 1, d.state.code), (78, 1, d.active), (79, 1, d.sister), (80, 4, d.timer)] ∧
          (m.op = none → bodyHolds body [(15, 2, 0xFFFF), (17, 10, 0), (27, 11, 0)]) ∧
          ∀ l, m.op = some l →
            bodyHolds body
              [(15, 1, l.kind.code), (16, 1, classCode l.passClass), (17, 1, l.wheel), (18, 1, l.dresser), (19, 4, l.eMin),
                (23, 1, l.blank), (24, 2, l.staleWindow),
                (37, 1, (if l.void then 2 else 0) + if l.wheelVoid then 1 else 0)] ∧
            (∀ k, l.check = some k → bodyHolds body [(26, 2, k.threshold), (28, 1, k.persistence)]) ∧
            (∀ j, l.judge = some j →
              bodyHolds body [(29, 1, j.learnCount), (30, 1, j.shift), (31, 2, j.lowBound), (33, 2, j.highBound)]) ∧
            (l.kind = .dress → l.judge = none → bodyHolds body [(29, 6, 0)]) ∧
            (∀ x, l.depth = some x → bodyHolds body [(35, 1, x)]) ∧
            (∀ x, l.nominal = some x → bodyHolds body [(36, 1, x)]) ∧
            (l.kind = .pass → l.depth = none → l.nominal = none → bodyHolds body [(35, 2, 0)])

/-- VERDICT: the checks of R110 in their order; else the incident closes and its capture is released; a BROKEN verdict on a
SUSPEND incident first makes its tool BROKEN, and a SERVING, DUE, WAITING or RUN_ON position it is mounted at goes to
selection (R109, R110, R111). -/
def Obligations.VerdictClosesTheIncident : Prop :=
  ∀ (s : State) (station judged : Nat), s.powered = true → ∃ t, exec (.verdict station judged) s = .next t ∧
    (5 < station ∨ 1 < judged → refused s t .badValue) ∧
    ∀ (st : Fin 6) (i : Incident), station = st.val → judged ≤ 1 → i = s.incident st →
      if (s.config st).present = false then refused s t .absent
      else if i.isOpen = false then refused s t .wrongState
      else if i.response = some .condemn ∧ judged = 0 then refused s t .wrongState
      else
        ∃ u, takenOk s u .ok [.tools, .incidents, .captures] ∧
          oneBecomes st { i with isOpen := false } s.incidents u.incidents ∧
          oneBecomes st { s.capture st with state := .none, trigger := none, post := 0 } s.captures u.captures ∧
          (∀ n, u.tool? n =
            if judged = 1 ∧ i.response = some .suspend ∧ i.tool ≠ 0 ∧ n = i.tool then
              (s.tool? n).map fun x => { x with condition := .broken }
            else s.tool? n) ∧
          ((∀ p x, judged = 1 → i.response = some .suspend → i.tool ≠ 0 → s.tool? i.tool = some x →
              x.condition ≠ .broken → x.placement = .mounted p →
              (s.position p).state = .serving ∨ (s.position p).state = .due ∨ (s.position p).state = .waiting ∨
                (s.position p).state = .runOn →
              t = u.selection p) ∧
            ((judged = 1 → i.response = some .suspend → i.tool ≠ 0 → ∀ x, s.tool? i.tool = some x →
                x.condition = .broken ∨ ∀ p, x.placement = .mounted p →
                  (s.position p).state = .empty ∨ (s.position p).state = .ordered ∨ (s.position p).state = .timedOut ∨
                    (s.position p).state = .halted) →
              t = u))

/-- HOLD sets FORCED, and CLEAR_FAULT clears both channels' fault flags and stuck checks and SENSOR; each is BAD_VALUE or
ABSENT for a station that is not there, and changes nothing else (R103, R114). -/
def Obligations.HoldAndClearFault : Prop :=
  ∀ (s : State) (station : Nat), s.powered = true → ∃ t u, exec (.hold station) s = .next t ∧
    exec (.clearFault station) s = .next u ∧
    (5 < station → refused s t .badValue ∧ refused s u .badValue) ∧
    ∀ st : Fin 6, station = st.val →
      ((s.config st).present = false → refused s t .absent ∧ refused s u .absent) ∧
      ((s.config st).present = true →
        takenOk s t .ok [.flags] ∧ oneBecomes st { s.flag st with forced := true } s.flags t.flags ∧
        t.holdOutput st = true ∧
        takenOk s u .ok [.flags, .monitors] ∧ oneBecomes st { s.flag st with sensor := false } s.flags u.flags ∧
        oneBecomes st { s.monitor st with power := ⟨none, 0, false⟩, ae := ⟨none, 0, false⟩ } s.monitors u.monitors)

/-- RESUME clears FORCED and STARTUP; if STARTUP was set, the DUE wheel position and then the DUE dresser position go to
selection, and no other position does (R114). -/
def Obligations.ResumeSelectsAfterStartup : Prop :=
  ∀ (s : State) (station : Nat), s.powered = true → ∃ t, exec (.resume station) s = .next t ∧
    (5 < station → refused s t .badValue) ∧
    ∀ st : Fin 6, station = st.val →
      ((s.config st).present = false → refused s t .absent) ∧
      ((s.config st).present = true →
        ∃ u v w, takenOk s u .ok [.flags] ∧
          oneBecomes st { s.flag st with forced := false, startup := false } s.flags u.flags ∧
          v = (if (u.position (wheelPos st)).state = .due then u.selection (wheelPos st) else u) ∧
          w = (if (v.position (dresserPos st)).state = .due then v.selection (dresserPos st) else v) ∧
          t = if (s.flag st).startup then w else u)

/-- RESET_STATION gives the station its power-on state, takes its two positions out of every list, releases their sisters,
rebuilds them from the mounted tools, and then reports each released sister that is eligible (R23, R31, R105, R115). That
the wheel position's sister is reported first is the model's choice, log entry 20; the LOW filtered levels and the slot 0 of
the emptied ring are log entries 13 and 14. -/
def Obligations.ResetStationStartsItAgain : Prop :=
  ∀ (s : State) (station : Nat), s.powered = true → tableWf s.tools = true → seatsOk s →
    ∃ t, exec (.resetStation station) s = .next t ∧
      (5 < station → refused s t .badValue) ∧
      ∀ (st : Fin 6) (w d : Fin 12), station = st.val → w = wheelPos st → d = dresserPos st →
        if (s.config st).present = false then refused s t .absent
        else
          ∃ u v, takenOk s u .ok [.tools, .groups, .monitors, .captures, .incidents, .flags, .positions] ∧
            oneBecomes st (monitorAfterReset .settling) s.monitors u.monitors ∧
            oneBecomes st ⟨[], 0, .none, none, 0⟩ s.captures u.captures ∧
            oneBecomes st ⟨false, none, none, 0, none, none, 0, 0, 0, false⟩ s.incidents u.incidents ∧
            oneBecomes st ⟨true, false, false⟩ s.flags u.flags ∧
            (∀ n, u.group? n = (s.group? n).map fun g =>
              { g with waiting := g.waiting.filter fun q => decide (q ≠ w ∧ q ≠ d) }) ∧
            (∀ n, u.tool? n =
              if n = (s.position w).sister ∨ n = (s.position d).sister then
                (s.tool? n).map fun x => { x with placement := .store }
              else s.tool? n) ∧
            (∀ p, u.position p =
              if p = w ∨ p = d then
                match s.tool? (s.position p).active with
                | some x => ⟨if x.condition.serviceable then .serving else .due, (s.position p).active, 0, 0⟩
                | none => ⟨.empty, 0, 0, 0⟩
              else s.position p) ∧
            v = (if (s.position w).sister = 0 then u else u.reportIfEligible (s.position w).sister) ∧
            t = if (s.position d).sister = 0 then v else v.reportIfEligible (s.position d).sister

/-- READ_CAPTURE: BAD_VALUE, ABSENT, NOT_READY unless FROZEN; else the length, the trigger index and up to 64 sample pairs
from the start index on in age order, changing nothing (R119, R177). -/
def Obligations.ReadCaptureReturnsTheRing : Prop :=
  ∀ (s : State) (station start : Nat), s.powered = true → ∃ t, exec (.readCapture station start) s = .next t ∧
    (5 < station → refused s t .badValue) ∧
    ∀ (st : Fin 6) (c : Capture) (count : Nat), station = st.val → c = s.capture st →
      count = min 64 (c.samples.length - start) →
      if (s.config st).present = false then refused s t .absent
      else if c.state ≠ .frozen then refused s t .notReady
      else
        ∃ body, replied s t .ok body ∧ onlyChanges [.link, .journal] s t ∧ body.length = 5 + 3 * count ∧
          bodyHolds body [(0, 2, c.samples.length), (2, 2, c.triggerIndex), (4, 1, count)] ∧
          ∀ i < count, ∀ pair, c.samples.reverse[start + i]? = some pair →
            field body (5 + 3 * i) 3 = pair.1.toNat * 4096 + pair.2.toNat

/-! ### The swap requests -/

/-- MOUNT: the checks of R148 in their order; else the tool is MOUNTED, the position SERVING with it, and the change reported
to the monitor, with the AIR counter of a wheel position at 0 (R41, R42, R65, R148). -/
def Obligations.MountSeatsTheTool : Prop :=
  ∀ (s : State) (position tool : Nat), s.powered = true → ∃ t, exec (.mount position tool) s = .next t ∧
    (11 < position ∨ tool = 0 ∨ 128 < tool → refused s t .badValue) ∧
    ∀ p : Fin 12, position = p.val → tool ≠ 0 → tool ≤ 128 →
      if (s.config (stationOf p)).present = false then refused s t .absent
      else match s.tool? tool with
        | none => refused s t .notDefined
        | some x =>
          if (s.position p).state ≠ .empty then refused s t .busy
          else if x.kind ≠ (if p.val % 2 = 0 then .wheel else .dresser) then refused s t .wrongKind
          else if x.placement ≠ .store then refused s t .busy
          else if x.condition ≠ .sound ∧ x.condition ≠ .warned then refused s t .wrongState
          else takenOk s t .ok [.tools, .positions, .monitors] ∧
            toolBecomes tool (some { x with placement := .mounted p }) s t ∧
            oneBecomes p ⟨.serving, tool, 0, 0⟩ s.positions t.positions ∧
            oneBecomes (stationOf p) ((s.monitor (stationOf p)).afterToolChange (seatKind p) true) s.monitors t.monitors

/-- DISMOUNT: BAD_VALUE, ABSENT, BUSY in ORDERED and TIMED_OUT, WRONG_STATE in EMPTY; else the position leaves its list, its
tool goes to STORE, the position is EMPTY, the change is reported to the monitor, and the tool reports an eligibility event
if it is then eligible (R7, R41, R42, R130, R149). That a position whose tool is undefined leaves no list is the model's
choice, log entry 17. -/
def Obligations.DismountEmptiesThePosition : Prop :=
  ∀ (s : State) (position : Nat), s.powered = true → ∃ t, exec (.dismount position) s = .next t ∧
    (11 < position → refused s t .badValue) ∧
    ∀ (p : Fin 12) (n : Nat), position = p.val → n = (s.position p).active →
      if (s.config (stationOf p)).present = false then refused s t .absent
      else if (s.position p).state = .ordered ∨ (s.position p).state = .timedOut then refused s t .busy
      else if (s.position p).state = .empty then refused s t .wrongState
      else
        ∃ u, takenOk s u .ok [.tools, .groups, .positions, .monitors] ∧
          oneBecomes p ⟨.empty, 0, 0, 0⟩ s.positions u.positions ∧
          oneBecomes (stationOf p) ((s.monitor (stationOf p)).afterToolChange (seatKind p) false) s.monitors
            u.monitors ∧
          (∀ m, u.tool? m = if m = n then (s.tool? m).map fun x => { x with placement := .store } else s.tool? m) ∧
          match s.tool? n with
          | none => u.groups = s.groups ∧ t = u
          | some x =>
            (∀ m, u.group? m =
              if m = x.group then
                (s.group? m).map fun g => { g with waiting := g.waiting.filter fun q => decide (q ≠ p) }
              else s.group? m) ∧
            t = if s.eligibleNow { x with placement := .store } then u.eligibilityEvent x.group else u

/-- CONFIRM_SWAP: the checks of R143 in their order; else the named tool is MOUNTED and SERVING, the outgoing tool and an
unused sister go to STORE, the change is reported, a routine SWAP_DONE notice is made, a BROKEN sister's position goes to
selection, and the outgoing tool's and then the unused sister's eligibility are reported (R144, R145). -/
def Obligations.ConfirmSwapExchangesTheTools : Prop :=
  ∀ (s : State) (position tool : Nat), s.powered = true → ∃ t, exec (.confirmSwap position tool) s = .next t ∧
    (11 < position ∨ tool = 0 ∨ 128 < tool → refused s t .badValue) ∧
    ∀ (p : Fin 12) (x : Position), position = p.val → tool ≠ 0 → tool ≤ 128 → x = s.position p →
      if (s.config (stationOf p)).present = false then refused s t .absent
      else if x.state = .timedOut then refused s t .late
      else if x.state ≠ .ordered then refused s t .wrongState
      else if tool ≠ x.sister ∧ ¬(∃ sister ∈ s.tool? x.sister, sister.group ≠ 0 ∧ ∃ g ∈ s.group? sister.group,
          tool ∈ g.chain ∧ ∃ y ∈ s.tool? tool, y.eligible g.margin = true) then refused s t .wrongTool
      else
        ∃ u, takenOk s u .ok [.tools, .positions, .monitors, .notices] ∧
          (∀ n, u.tool? n =
            if n = tool then (s.tool? n).map fun y => { y with placement := .mounted p }
            else if n = x.active ∨ n = x.sister then (s.tool? n).map fun y => { y with placement := .store }
            else s.tool? n) ∧
          oneBecomes p ⟨.serving, tool, 0, 0⟩ s.positions u.positions ∧
          oneBecomes (stationOf p) ((s.monitor (stationOf p)).afterToolChange (seatKind p) true) s.monitors u.monitors ∧
          u.notices = s.notices.push false
            ⟨.swapDone, some (stationOf p), some (seatKind p), tool, s.tagOf tool, x.active,
              if tool = x.sister then 0 else 1, s.clock⟩ ∧
          (tool ≠ x.sister → t = (u.reportIfEligible x.active).reportIfEligible x.sister) ∧
          (tool = x.sister → (s.tool? tool).map Tool.condition = some .broken →
            t = (u.selection p).reportIfEligible x.active) ∧
          (tool = x.sister → (s.tool? tool).map Tool.condition ≠ some .broken → t = u.reportIfEligible x.active)

/-- CANCEL_SWAP: BAD_VALUE, ABSENT, WRONG_STATE; else the sister goes to STORE, the position is HALTED with its tool and a
stopped timer, and the sister reports an eligibility event if it is then eligible (R146). That an undefined sister reports
nothing is the model's choice, log entry 17. -/
def Obligations.CancelSwapHaltsThePosition : Prop :=
  ∀ (s : State) (position : Nat), s.powered = true → ∃ t, exec (.cancelSwap position) s = .next t ∧
    (11 < position → refused s t .badValue) ∧
    ∀ (p : Fin 12) (x : Position), position = p.val → x = s.position p →
      if (s.config (stationOf p)).present = false then refused s t .absent
      else if x.state ≠ .ordered ∧ x.state ≠ .timedOut then refused s t .wrongState
      else
        ∃ u, takenOk s u .ok [.tools, .positions] ∧ oneBecomes p ⟨.halted, x.active, 0, 0⟩ s.positions u.positions ∧
          (∀ n, u.tool? n =
            if n = x.sister then (s.tool? n).map fun y => { y with placement := .store } else s.tool? n) ∧
          t = match s.tool? x.sister with
            | none => u
            | some y => if s.eligibleNow { y with placement := .store } then u.eligibilityEvent y.group else u

/-- SWAP_NOW: BAD_VALUE, ABSENT, WRONG_STATE; a DUE, WAITING, HALTED or RUN_ON position goes to selection, whatever its
tool's condition (R140, R147). -/
def Obligations.SwapNowSelects : Prop :=
  ∀ (s : State) (position : Nat), s.powered = true → ∃ t, exec (.swapNow position) s = .next t ∧
    (11 < position → refused s t .badValue) ∧
    ∀ p : Fin 12, position = p.val →
      if (s.config (stationOf p)).present = false then refused s t .absent
      else if (s.position p).state = .empty ∨ (s.position p).state = .serving ∨ (s.position p).state = .ordered ∨
          (s.position p).state = .timedOut then refused s t .wrongState
      else ∃ u, takenOk s u .ok [] ∧ t = u.selection p

/-! ### The notice queues and the outputs -/

/-- FETCH_NOTICE returns and removes the notice of R158's table: the oldest urgent one, or the oldest routine one when no
urgent one waits or four urgent ones have been fetched in a row; EMPTY changes nothing (R157, R158, R159, R176). -/
def Obligations.FetchNoticeTakesTurns : Prop :=
  ∀ (s : State) (q : NoticeQueues), s.powered = true → q = s.notices → ∃ t, exec .fetchNotice s = .next t ∧
    (q.urgent = [] → q.routine = [] → refused s t .empty) ∧
    ∀ (routine : Bool) (n : Notice),
      (if routine then q.routine.head? = some n ∧ (q.urgent = [] ∨ q.count = 4)
        else q.urgent.head? = some n ∧ (q.routine = [] ∨ q.count ≠ 4)) →
      (t.notices =
        if routine then
          { q with
            routine := q.routine.tail
            routineLost := q.routineLost && !q.routine.tail.isEmpty
            count := 0 }
        else
          { q with
            urgent := q.urgent.tail
            urgentLost := q.urgentLost && !q.urgent.tail.isEmpty
            count := if q.urgent.tail = [] then 0 else min 4 (q.count + 1) }) ∧
      onlyChanges [.link, .journal, .notices] s t ∧
      ∃ body, replied s t .ok body ∧ body.length = 20 ∧
        bodyHolds body
          [(0, 1, if routine then 1 else 0), (1, 1, t.notices.urgent.length), (2, 1, t.notices.routine.length),
            (3, 1, (if t.notices.urgentLost then 2 else 0) + if t.notices.routineLost then 1 else 0), (4, 1, n.kind.code),
            (5, 1, (n.station.map Fin.val).getD 0xFF), (6, 1, (n.posKind.map Kind.code).getD 0xFF), (7, 1, n.tool),
            (8, 2, n.tag), (10, 4, n.detailA), (14, 2, n.detailB), (16, 4, n.time)]

/-- SET_ATTENTION: BAD_VALUE for an enable other than on or off; else the enables and the level at the next of 1, 8, 16 and
32, ADJUSTED when the level was clamped; ATTENTION follows at once, and nothing else of the queues changes (R161). -/
def Obligations.SetAttentionTakesTheNextLevel : Prop :=
  ∀ (s : State) (urgent routine level : Nat), s.powered = true →
    ∃ t, exec (.setAttention urgent routine level) s = .next t ∧
      if 1 < urgent ∨ 1 < routine then refused s t .badValue
      else
        takenOk s t (if level = 1 ∨ level = 8 ∨ level = 16 ∨ level = 32 then .ok else .adjusted) [.notices] ∧
        t.notices =
          { s.notices with
            urgentEnable := decide (urgent = 1)
            routineEnable := decide (routine = 1)
            level := if level ≤ 1 then 1 else if level ≤ 8 then 8 else if level ≤ 16 then 16 else 32 } ∧
        (t.attention = true ↔
          urgent = 1 ∧ s.notices.urgent ≠ [] ∨ routine = 1 ∧ t.notices.level ≤ s.notices.routine.length)

/-- The lines and the summary byte show the state: HOLD and the hold reason set of R112, its bits those of R178, ATTENTION of
R160, and the eight bits of Table 10-4 (R170). -/
def Obligations.OutputsShowTheState : Prop :=
  ∀ s : State,
    (∀ st : Fin 6, s.holdOutput st = true ↔ (s.config st).present = true ∧
      ((s.flag st).startup = true ∨ (s.flag st).forced = true ∨ (s.incident st).isOpen = true ∨
        (s.flag st).sensor = true ∨ (s.position (wheelPos st)).state = .empty ∨
        ∃ p ∈ [wheelPos st, dresserPos st], (s.position p).state ∈ [.ordered, .timedOut, .halted, .waiting])) ∧
    (∀ (st : Fin 6) (bits : Nat), bits = s.holdReasonBits st →
      ((s.config st).present = false → bits = 0) ∧
      ((s.config st).present = true →
        bits < 512 ∧ bits.testBit 0 = (s.flag st).startup ∧ bits.testBit 1 = (s.flag st).forced ∧
        bits.testBit 2 = (s.incident st).isOpen ∧ bits.testBit 3 = (s.flag st).sensor ∧
        (bits.testBit 4 = true ↔ (s.position (wheelPos st)).state = .empty) ∧
        (bits.testBit 5 = true ↔ ∃ p ∈ [wheelPos st, dresserPos st], (s.position p).state = .ordered) ∧
        (bits.testBit 6 = true ↔ ∃ p ∈ [wheelPos st, dresserPos st], (s.position p).state = .timedOut) ∧
        (bits.testBit 7 = true ↔ ∃ p ∈ [wheelPos st, dresserPos st], (s.position p).state = .halted) ∧
        (bits.testBit 8 = true ↔ ∃ p ∈ [wheelPos st, dresserPos st], (s.position p).state = .waiting))) ∧
    (s.attention = true ↔ (s.notices.urgentEnable = true ∧ s.notices.urgent ≠ []) ∨
      (s.notices.routineEnable = true ∧ s.notices.level ≤ s.notices.routine.length)) ∧
    s.summaryByte.getLsbD 7 = !s.notices.urgent.isEmpty ∧ s.summaryByte.getLsbD 6 = !s.notices.routine.isEmpty ∧
    s.summaryByte.getLsbD 5 = s.notices.urgentLost ∧ s.summaryByte.getLsbD 4 = s.notices.routineLost ∧
    (s.summaryByte.getLsbD 3 = true ↔ ∃ st, s.holdOutput st = true) ∧
    (s.summaryByte.getLsbD 2 = true ↔ ∃ st, (s.incident st).isOpen = true) ∧
    (s.summaryByte.getLsbD 1 = true ↔ ∃ st, (s.config st).present = true ∧ (s.flag st).startup = true) ∧
    s.summaryByte.getLsbD 0 = s.attention

/-! ### The invariants -/

/-- The part as delivered meets every invariant below (R1, R31, R120, R150, R155, R156, R162). What
State.reset holds where no rule says is the model's choice, log entries 4, 5, 13 and 14. -/
def Obligations.ResetMeetsInvariants : Prop :=
  queuesOk State.reset ∧ tablesOk State.reset ∧ conditionsOk State.reset ∧ recordsOk State.reset ∧ cellOk State.reset

/-- Every step keeps the queues within their bounds, their lost flags and the count with them, and the clock 32 bits wide
(R155, R156, R157, R158, R161). -/
def Obligations.QueuesStayInBounds : Prop :=
  ∀ s t : State, step s = .next t → queuesOk s → queuesOk t

/-- Every step keeps both tables in canonical form, also through a power failure (R1, R22, R120). -/
def Obligations.TablesStayCanonical : Prop :=
  ∀ s t : State, step s = .next t → tablesOk s → tablesOk t

/-- Every step keeps each tool's condition in agreement with its life condition, also through a power failure (R8, R9, R10).
-/
def Obligations.ConditionsFollowLife : Prop :=
  ∀ s t : State, step s = .next t → tablesOk s → conditionsOk s → conditionsOk t

/-- Every step keeps every tool record within the ranges of Table 1-1 and R3, also through a power failure. -/
def Obligations.RecordsStayInRange : Prop :=
  ∀ s t : State, step s = .next t → tablesOk s → recordsOk s → recordsOk t

/-- Every step that keeps power on keeps chains and group fields in agreement (R5, R121). -/
def Obligations.ChainsAgreeWithGroups : Prop :=
  ∀ s t : State, s.powered = true → (∀ c ∈ s.pending, c.wf = true) → tableWf s.tools = true → tableWf s.groups = true →
    chainsOk s → step s = .next t → t.powered = true → chainsOk t

/-- Every step that keeps power on keeps tables, chains, placements, positions, kinds, waiting lists and RUN_ON positions in
agreement (R5, R6, R121, R129, R130, R134, R135): the swap protocol never loses, doubles or misplaces a tool. -/
def Obligations.SwapsKeepTheCellWhole : Prop :=
  ∀ s t : State, s.powered = true → (∀ c ∈ s.pending, c.wf = true) → cellOk s → step s = .next t → t.powered = true →
    cellOk t
end

