-- ==== Sys2Proof/Laws/State.lean ====
section
/-! SUPPORT. One lemma per field per update of the state, and what each read shows after each write. -/

namespace Sys2Proof.Machine.State

/-! ### withPowered -/

@[simp] theorem withPowered_powered (s : State) (v : Bool) : (s.withPowered v).powered = v := rfl
@[simp] theorem withPowered_clock (s : State) (v : Bool) : (s.withPowered v).clock = s.clock := rfl
@[simp] theorem withPowered_tools (s : State) (v : Bool) : (s.withPowered v).tools = s.tools := rfl
@[simp] theorem withPowered_groups (s : State) (v : Bool) : (s.withPowered v).groups = s.groups := rfl
@[simp] theorem withPowered_configs (s : State) (v : Bool) : (s.withPowered v).configs = s.configs := rfl
@[simp] theorem withPowered_monitors (s : State) (v : Bool) : (s.withPowered v).monitors = s.monitors := rfl
@[simp] theorem withPowered_captures (s : State) (v : Bool) : (s.withPowered v).captures = s.captures := rfl
@[simp] theorem withPowered_incidents (s : State) (v : Bool) : (s.withPowered v).incidents = s.incidents := rfl
@[simp] theorem withPowered_flags (s : State) (v : Bool) : (s.withPowered v).flags = s.flags := rfl
@[simp] theorem withPowered_positions (s : State) (v : Bool) : (s.withPowered v).positions = s.positions := rfl
@[simp] theorem withPowered_notices (s : State) (v : Bool) : (s.withPowered v).notices = s.notices := rfl
@[simp] theorem withPowered_link (s : State) (v : Bool) : (s.withPowered v).link = s.link := rfl
@[simp] theorem withPowered_journal (s : State) (v : Bool) : (s.withPowered v).journal = s.journal := rfl
@[simp] theorem withPowered_pending (s : State) (v : Bool) : (s.withPowered v).pending = s.pending := rfl

/-! ### withClock -/

@[simp] theorem withClock_powered (s : State) (v : Nat) : (s.withClock v).powered = s.powered := rfl
@[simp] theorem withClock_clock (s : State) (v : Nat) : (s.withClock v).clock = v := rfl
@[simp] theorem withClock_tools (s : State) (v : Nat) : (s.withClock v).tools = s.tools := rfl
@[simp] theorem withClock_groups (s : State) (v : Nat) : (s.withClock v).groups = s.groups := rfl
@[simp] theorem withClock_configs (s : State) (v : Nat) : (s.withClock v).configs = s.configs := rfl
@[simp] theorem withClock_monitors (s : State) (v : Nat) : (s.withClock v).monitors = s.monitors := rfl
@[simp] theorem withClock_captures (s : State) (v : Nat) : (s.withClock v).captures = s.captures := rfl
@[simp] theorem withClock_incidents (s : State) (v : Nat) : (s.withClock v).incidents = s.incidents := rfl
@[simp] theorem withClock_flags (s : State) (v : Nat) : (s.withClock v).flags = s.flags := rfl
@[simp] theorem withClock_positions (s : State) (v : Nat) : (s.withClock v).positions = s.positions := rfl
@[simp] theorem withClock_notices (s : State) (v : Nat) : (s.withClock v).notices = s.notices := rfl
@[simp] theorem withClock_link (s : State) (v : Nat) : (s.withClock v).link = s.link := rfl
@[simp] theorem withClock_journal (s : State) (v : Nat) : (s.withClock v).journal = s.journal := rfl
@[simp] theorem withClock_pending (s : State) (v : Nat) : (s.withClock v).pending = s.pending := rfl

/-! ### withTools -/

@[simp] theorem withTools_powered (s : State) (v : Table Tool) : (s.withTools v).powered = s.powered := rfl
@[simp] theorem withTools_clock (s : State) (v : Table Tool) : (s.withTools v).clock = s.clock := rfl
@[simp] theorem withTools_tools (s : State) (v : Table Tool) : (s.withTools v).tools = v := rfl
@[simp] theorem withTools_groups (s : State) (v : Table Tool) : (s.withTools v).groups = s.groups := rfl
@[simp] theorem withTools_configs (s : State) (v : Table Tool) : (s.withTools v).configs = s.configs := rfl
@[simp] theorem withTools_monitors (s : State) (v : Table Tool) : (s.withTools v).monitors = s.monitors := rfl
@[simp] theorem withTools_captures (s : State) (v : Table Tool) : (s.withTools v).captures = s.captures := rfl
@[simp] theorem withTools_incidents (s : State) (v : Table Tool) : (s.withTools v).incidents = s.incidents := rfl
@[simp] theorem withTools_flags (s : State) (v : Table Tool) : (s.withTools v).flags = s.flags := rfl
@[simp] theorem withTools_positions (s : State) (v : Table Tool) : (s.withTools v).positions = s.positions := rfl
@[simp] theorem withTools_notices (s : State) (v : Table Tool) : (s.withTools v).notices = s.notices := rfl
@[simp] theorem withTools_link (s : State) (v : Table Tool) : (s.withTools v).link = s.link := rfl
@[simp] theorem withTools_journal (s : State) (v : Table Tool) : (s.withTools v).journal = s.journal := rfl
@[simp] theorem withTools_pending (s : State) (v : Table Tool) : (s.withTools v).pending = s.pending := rfl

/-! ### withGroups -/

@[simp] theorem withGroups_powered (s : State) (v : Table Group) : (s.withGroups v).powered = s.powered := rfl
@[simp] theorem withGroups_clock (s : State) (v : Table Group) : (s.withGroups v).clock = s.clock := rfl
@[simp] theorem withGroups_tools (s : State) (v : Table Group) : (s.withGroups v).tools = s.tools := rfl
@[simp] theorem withGroups_groups (s : State) (v : Table Group) : (s.withGroups v).groups = v := rfl
@[simp] theorem withGroups_configs (s : State) (v : Table Group) : (s.withGroups v).configs = s.configs := rfl
@[simp] theorem withGroups_monitors (s : State) (v : Table Group) : (s.withGroups v).monitors = s.monitors := rfl
@[simp] theorem withGroups_captures (s : State) (v : Table Group) : (s.withGroups v).captures = s.captures := rfl
@[simp] theorem withGroups_incidents (s : State) (v : Table Group) : (s.withGroups v).incidents = s.incidents := rfl
@[simp] theorem withGroups_flags (s : State) (v : Table Group) : (s.withGroups v).flags = s.flags := rfl
@[simp] theorem withGroups_positions (s : State) (v : Table Group) : (s.withGroups v).positions = s.positions := rfl
@[simp] theorem withGroups_notices (s : State) (v : Table Group) : (s.withGroups v).notices = s.notices := rfl
@[simp] theorem withGroups_link (s : State) (v : Table Group) : (s.withGroups v).link = s.link := rfl
@[simp] theorem withGroups_journal (s : State) (v : Table Group) : (s.withGroups v).journal = s.journal := rfl
@[simp] theorem withGroups_pending (s : State) (v : Table Group) : (s.withGroups v).pending = s.pending := rfl

/-! ### withConfigs -/

@[simp] theorem withConfigs_powered (s : State) (v : Vector StationConfig 6) : (s.withConfigs v).powered = s.powered := rfl
@[simp] theorem withConfigs_clock (s : State) (v : Vector StationConfig 6) : (s.withConfigs v).clock = s.clock := rfl
@[simp] theorem withConfigs_tools (s : State) (v : Vector StationConfig 6) : (s.withConfigs v).tools = s.tools := rfl
@[simp] theorem withConfigs_groups (s : State) (v : Vector StationConfig 6) : (s.withConfigs v).groups = s.groups := rfl
@[simp] theorem withConfigs_configs (s : State) (v : Vector StationConfig 6) : (s.withConfigs v).configs = v := rfl
@[simp] theorem withConfigs_monitors (s : State) (v : Vector StationConfig 6) : (s.withConfigs v).monitors = s.monitors := rfl
@[simp] theorem withConfigs_captures (s : State) (v : Vector StationConfig 6) : (s.withConfigs v).captures = s.captures := rfl
@[simp] theorem withConfigs_incidents (s : State) (v : Vector StationConfig 6) : (s.withConfigs v).incidents = s.incidents := rfl
@[simp] theorem withConfigs_flags (s : State) (v : Vector StationConfig 6) : (s.withConfigs v).flags = s.flags := rfl
@[simp] theorem withConfigs_positions (s : State) (v : Vector StationConfig 6) : (s.withConfigs v).positions = s.positions := rfl
@[simp] theorem withConfigs_notices (s : State) (v : Vector StationConfig 6) : (s.withConfigs v).notices = s.notices := rfl
@[simp] theorem withConfigs_link (s : State) (v : Vector StationConfig 6) : (s.withConfigs v).link = s.link := rfl
@[simp] theorem withConfigs_journal (s : State) (v : Vector StationConfig 6) : (s.withConfigs v).journal = s.journal := rfl
@[simp] theorem withConfigs_pending (s : State) (v : Vector StationConfig 6) : (s.withConfigs v).pending = s.pending := rfl

/-! ### withMonitors -/

@[simp] theorem withMonitors_powered (s : State) (v : Vector Monitor 6) : (s.withMonitors v).powered = s.powered := rfl
@[simp] theorem withMonitors_clock (s : State) (v : Vector Monitor 6) : (s.withMonitors v).clock = s.clock := rfl
@[simp] theorem withMonitors_tools (s : State) (v : Vector Monitor 6) : (s.withMonitors v).tools = s.tools := rfl
@[simp] theorem withMonitors_groups (s : State) (v : Vector Monitor 6) : (s.withMonitors v).groups = s.groups := rfl
@[simp] theorem withMonitors_configs (s : State) (v : Vector Monitor 6) : (s.withMonitors v).configs = s.configs := rfl
@[simp] theorem withMonitors_monitors (s : State) (v : Vector Monitor 6) : (s.withMonitors v).monitors = v := rfl
@[simp] theorem withMonitors_captures (s : State) (v : Vector Monitor 6) : (s.withMonitors v).captures = s.captures := rfl
@[simp] theorem withMonitors_incidents (s : State) (v : Vector Monitor 6) : (s.withMonitors v).incidents = s.incidents := rfl
@[simp] theorem withMonitors_flags (s : State) (v : Vector Monitor 6) : (s.withMonitors v).flags = s.flags := rfl
@[simp] theorem withMonitors_positions (s : State) (v : Vector Monitor 6) : (s.withMonitors v).positions = s.positions := rfl
@[simp] theorem withMonitors_notices (s : State) (v : Vector Monitor 6) : (s.withMonitors v).notices = s.notices := rfl
@[simp] theorem withMonitors_link (s : State) (v : Vector Monitor 6) : (s.withMonitors v).link = s.link := rfl
@[simp] theorem withMonitors_journal (s : State) (v : Vector Monitor 6) : (s.withMonitors v).journal = s.journal := rfl
@[simp] theorem withMonitors_pending (s : State) (v : Vector Monitor 6) : (s.withMonitors v).pending = s.pending := rfl

/-! ### withCaptures -/

@[simp] theorem withCaptures_powered (s : State) (v : Vector Capture 6) : (s.withCaptures v).powered = s.powered := rfl
@[simp] theorem withCaptures_clock (s : State) (v : Vector Capture 6) : (s.withCaptures v).clock = s.clock := rfl
@[simp] theorem withCaptures_tools (s : State) (v : Vector Capture 6) : (s.withCaptures v).tools = s.tools := rfl
@[simp] theorem withCaptures_groups (s : State) (v : Vector Capture 6) : (s.withCaptures v).groups = s.groups := rfl
@[simp] theorem withCaptures_configs (s : State) (v : Vector Capture 6) : (s.withCaptures v).configs = s.configs := rfl
@[simp] theorem withCaptures_monitors (s : State) (v : Vector Capture 6) : (s.withCaptures v).monitors = s.monitors := rfl
@[simp] theorem withCaptures_captures (s : State) (v : Vector Capture 6) : (s.withCaptures v).captures = v := rfl
@[simp] theorem withCaptures_incidents (s : State) (v : Vector Capture 6) : (s.withCaptures v).incidents = s.incidents := rfl
@[simp] theorem withCaptures_flags (s : State) (v : Vector Capture 6) : (s.withCaptures v).flags = s.flags := rfl
@[simp] theorem withCaptures_positions (s : State) (v : Vector Capture 6) : (s.withCaptures v).positions = s.positions := rfl
@[simp] theorem withCaptures_notices (s : State) (v : Vector Capture 6) : (s.withCaptures v).notices = s.notices := rfl
@[simp] theorem withCaptures_link (s : State) (v : Vector Capture 6) : (s.withCaptures v).link = s.link := rfl
@[simp] theorem withCaptures_journal (s : State) (v : Vector Capture 6) : (s.withCaptures v).journal = s.journal := rfl
@[simp] theorem withCaptures_pending (s : State) (v : Vector Capture 6) : (s.withCaptures v).pending = s.pending := rfl

/-! ### withIncidents -/

@[simp] theorem withIncidents_powered (s : State) (v : Vector Incident 6) : (s.withIncidents v).powered = s.powered := rfl
@[simp] theorem withIncidents_clock (s : State) (v : Vector Incident 6) : (s.withIncidents v).clock = s.clock := rfl
@[simp] theorem withIncidents_tools (s : State) (v : Vector Incident 6) : (s.withIncidents v).tools = s.tools := rfl
@[simp] theorem withIncidents_groups (s : State) (v : Vector Incident 6) : (s.withIncidents v).groups = s.groups := rfl
@[simp] theorem withIncidents_configs (s : State) (v : Vector Incident 6) : (s.withIncidents v).configs = s.configs := rfl
@[simp] theorem withIncidents_monitors (s : State) (v : Vector Incident 6) : (s.withIncidents v).monitors = s.monitors := rfl
@[simp] theorem withIncidents_captures (s : State) (v : Vector Incident 6) : (s.withIncidents v).captures = s.captures := rfl
@[simp] theorem withIncidents_incidents (s : State) (v : Vector Incident 6) : (s.withIncidents v).incidents = v := rfl
@[simp] theorem withIncidents_flags (s : State) (v : Vector Incident 6) : (s.withIncidents v).flags = s.flags := rfl
@[simp] theorem withIncidents_positions (s : State) (v : Vector Incident 6) : (s.withIncidents v).positions = s.positions := rfl
@[simp] theorem withIncidents_notices (s : State) (v : Vector Incident 6) : (s.withIncidents v).notices = s.notices := rfl
@[simp] theorem withIncidents_link (s : State) (v : Vector Incident 6) : (s.withIncidents v).link = s.link := rfl
@[simp] theorem withIncidents_journal (s : State) (v : Vector Incident 6) : (s.withIncidents v).journal = s.journal := rfl
@[simp] theorem withIncidents_pending (s : State) (v : Vector Incident 6) : (s.withIncidents v).pending = s.pending := rfl

/-! ### withFlags -/

@[simp] theorem withFlags_powered (s : State) (v : Vector StationFlags 6) : (s.withFlags v).powered = s.powered := rfl
@[simp] theorem withFlags_clock (s : State) (v : Vector StationFlags 6) : (s.withFlags v).clock = s.clock := rfl
@[simp] theorem withFlags_tools (s : State) (v : Vector StationFlags 6) : (s.withFlags v).tools = s.tools := rfl
@[simp] theorem withFlags_groups (s : State) (v : Vector StationFlags 6) : (s.withFlags v).groups = s.groups := rfl
@[simp] theorem withFlags_configs (s : State) (v : Vector StationFlags 6) : (s.withFlags v).configs = s.configs := rfl
@[simp] theorem withFlags_monitors (s : State) (v : Vector StationFlags 6) : (s.withFlags v).monitors = s.monitors := rfl
@[simp] theorem withFlags_captures (s : State) (v : Vector StationFlags 6) : (s.withFlags v).captures = s.captures := rfl
@[simp] theorem withFlags_incidents (s : State) (v : Vector StationFlags 6) : (s.withFlags v).incidents = s.incidents := rfl
@[simp] theorem withFlags_flags (s : State) (v : Vector StationFlags 6) : (s.withFlags v).flags = v := rfl
@[simp] theorem withFlags_positions (s : State) (v : Vector StationFlags 6) : (s.withFlags v).positions = s.positions := rfl
@[simp] theorem withFlags_notices (s : State) (v : Vector StationFlags 6) : (s.withFlags v).notices = s.notices := rfl
@[simp] theorem withFlags_link (s : State) (v : Vector StationFlags 6) : (s.withFlags v).link = s.link := rfl
@[simp] theorem withFlags_journal (s : State) (v : Vector StationFlags 6) : (s.withFlags v).journal = s.journal := rfl
@[simp] theorem withFlags_pending (s : State) (v : Vector StationFlags 6) : (s.withFlags v).pending = s.pending := rfl

/-! ### withPositions -/

@[simp] theorem withPositions_powered (s : State) (v : Vector Position 12) : (s.withPositions v).powered = s.powered := rfl
@[simp] theorem withPositions_clock (s : State) (v : Vector Position 12) : (s.withPositions v).clock = s.clock := rfl
@[simp] theorem withPositions_tools (s : State) (v : Vector Position 12) : (s.withPositions v).tools = s.tools := rfl
@[simp] theorem withPositions_groups (s : State) (v : Vector Position 12) : (s.withPositions v).groups = s.groups := rfl
@[simp] theorem withPositions_configs (s : State) (v : Vector Position 12) : (s.withPositions v).configs = s.configs := rfl
@[simp] theorem withPositions_monitors (s : State) (v : Vector Position 12) : (s.withPositions v).monitors = s.monitors := rfl
@[simp] theorem withPositions_captures (s : State) (v : Vector Position 12) : (s.withPositions v).captures = s.captures := rfl
@[simp] theorem withPositions_incidents (s : State) (v : Vector Position 12) : (s.withPositions v).incidents = s.incidents := rfl
@[simp] theorem withPositions_flags (s : State) (v : Vector Position 12) : (s.withPositions v).flags = s.flags := rfl
@[simp] theorem withPositions_positions (s : State) (v : Vector Position 12) : (s.withPositions v).positions = v := rfl
@[simp] theorem withPositions_notices (s : State) (v : Vector Position 12) : (s.withPositions v).notices = s.notices := rfl
@[simp] theorem withPositions_link (s : State) (v : Vector Position 12) : (s.withPositions v).link = s.link := rfl
@[simp] theorem withPositions_journal (s : State) (v : Vector Position 12) : (s.withPositions v).journal = s.journal := rfl
@[simp] theorem withPositions_pending (s : State) (v : Vector Position 12) : (s.withPositions v).pending = s.pending := rfl

/-! ### withNotices -/

@[simp] theorem withNotices_powered (s : State) (v : NoticeQueues) : (s.withNotices v).powered = s.powered := rfl
@[simp] theorem withNotices_clock (s : State) (v : NoticeQueues) : (s.withNotices v).clock = s.clock := rfl
@[simp] theorem withNotices_tools (s : State) (v : NoticeQueues) : (s.withNotices v).tools = s.tools := rfl
@[simp] theorem withNotices_groups (s : State) (v : NoticeQueues) : (s.withNotices v).groups = s.groups := rfl
@[simp] theorem withNotices_configs (s : State) (v : NoticeQueues) : (s.withNotices v).configs = s.configs := rfl
@[simp] theorem withNotices_monitors (s : State) (v : NoticeQueues) : (s.withNotices v).monitors = s.monitors := rfl
@[simp] theorem withNotices_captures (s : State) (v : NoticeQueues) : (s.withNotices v).captures = s.captures := rfl
@[simp] theorem withNotices_incidents (s : State) (v : NoticeQueues) : (s.withNotices v).incidents = s.incidents := rfl
@[simp] theorem withNotices_flags (s : State) (v : NoticeQueues) : (s.withNotices v).flags = s.flags := rfl
@[simp] theorem withNotices_positions (s : State) (v : NoticeQueues) : (s.withNotices v).positions = s.positions := rfl
@[simp] theorem withNotices_notices (s : State) (v : NoticeQueues) : (s.withNotices v).notices = v := rfl
@[simp] theorem withNotices_link (s : State) (v : NoticeQueues) : (s.withNotices v).link = s.link := rfl
@[simp] theorem withNotices_journal (s : State) (v : NoticeQueues) : (s.withNotices v).journal = s.journal := rfl
@[simp] theorem withNotices_pending (s : State) (v : NoticeQueues) : (s.withNotices v).pending = s.pending := rfl

/-! ### withLink -/

@[simp] theorem withLink_powered (s : State) (v : LinkPort) : (s.withLink v).powered = s.powered := rfl
@[simp] theorem withLink_clock (s : State) (v : LinkPort) : (s.withLink v).clock = s.clock := rfl
@[simp] theorem withLink_tools (s : State) (v : LinkPort) : (s.withLink v).tools = s.tools := rfl
@[simp] theorem withLink_groups (s : State) (v : LinkPort) : (s.withLink v).groups = s.groups := rfl
@[simp] theorem withLink_configs (s : State) (v : LinkPort) : (s.withLink v).configs = s.configs := rfl
@[simp] theorem withLink_monitors (s : State) (v : LinkPort) : (s.withLink v).monitors = s.monitors := rfl
@[simp] theorem withLink_captures (s : State) (v : LinkPort) : (s.withLink v).captures = s.captures := rfl
@[simp] theorem withLink_incidents (s : State) (v : LinkPort) : (s.withLink v).incidents = s.incidents := rfl
@[simp] theorem withLink_flags (s : State) (v : LinkPort) : (s.withLink v).flags = s.flags := rfl
@[simp] theorem withLink_positions (s : State) (v : LinkPort) : (s.withLink v).positions = s.positions := rfl
@[simp] theorem withLink_notices (s : State) (v : LinkPort) : (s.withLink v).notices = s.notices := rfl
@[simp] theorem withLink_link (s : State) (v : LinkPort) : (s.withLink v).link = v := rfl
@[simp] theorem withLink_journal (s : State) (v : LinkPort) : (s.withLink v).journal = s.journal := rfl
@[simp] theorem withLink_pending (s : State) (v : LinkPort) : (s.withLink v).pending = s.pending := rfl

/-! ### withJournal -/

@[simp] theorem withJournal_powered (s : State) (v : List Commit) : (s.withJournal v).powered = s.powered := rfl
@[simp] theorem withJournal_clock (s : State) (v : List Commit) : (s.withJournal v).clock = s.clock := rfl
@[simp] theorem withJournal_tools (s : State) (v : List Commit) : (s.withJournal v).tools = s.tools := rfl
@[simp] theorem withJournal_groups (s : State) (v : List Commit) : (s.withJournal v).groups = s.groups := rfl
@[simp] theorem withJournal_configs (s : State) (v : List Commit) : (s.withJournal v).configs = s.configs := rfl
@[simp] theorem withJournal_monitors (s : State) (v : List Commit) : (s.withJournal v).monitors = s.monitors := rfl
@[simp] theorem withJournal_captures (s : State) (v : List Commit) : (s.withJournal v).captures = s.captures := rfl
@[simp] theorem withJournal_incidents (s : State) (v : List Commit) : (s.withJournal v).incidents = s.incidents := rfl
@[simp] theorem withJournal_flags (s : State) (v : List Commit) : (s.withJournal v).flags = s.flags := rfl
@[simp] theorem withJournal_positions (s : State) (v : List Commit) : (s.withJournal v).positions = s.positions := rfl
@[simp] theorem withJournal_notices (s : State) (v : List Commit) : (s.withJournal v).notices = s.notices := rfl
@[simp] theorem withJournal_link (s : State) (v : List Commit) : (s.withJournal v).link = s.link := rfl
@[simp] theorem withJournal_journal (s : State) (v : List Commit) : (s.withJournal v).journal = v := rfl
@[simp] theorem withJournal_pending (s : State) (v : List Commit) : (s.withJournal v).pending = s.pending := rfl

/-! ### withPending -/

@[simp] theorem withPending_powered (s : State) (v : List Instr) : (s.withPending v).powered = s.powered := rfl
@[simp] theorem withPending_clock (s : State) (v : List Instr) : (s.withPending v).clock = s.clock := rfl
@[simp] theorem withPending_tools (s : State) (v : List Instr) : (s.withPending v).tools = s.tools := rfl
@[simp] theorem withPending_groups (s : State) (v : List Instr) : (s.withPending v).groups = s.groups := rfl
@[simp] theorem withPending_configs (s : State) (v : List Instr) : (s.withPending v).configs = s.configs := rfl
@[simp] theorem withPending_monitors (s : State) (v : List Instr) : (s.withPending v).monitors = s.monitors := rfl
@[simp] theorem withPending_captures (s : State) (v : List Instr) : (s.withPending v).captures = s.captures := rfl
@[simp] theorem withPending_incidents (s : State) (v : List Instr) : (s.withPending v).incidents = s.incidents := rfl
@[simp] theorem withPending_flags (s : State) (v : List Instr) : (s.withPending v).flags = s.flags := rfl
@[simp] theorem withPending_positions (s : State) (v : List Instr) : (s.withPending v).positions = s.positions := rfl
@[simp] theorem withPending_notices (s : State) (v : List Instr) : (s.withPending v).notices = s.notices := rfl
@[simp] theorem withPending_link (s : State) (v : List Instr) : (s.withPending v).link = s.link := rfl
@[simp] theorem withPending_journal (s : State) (v : List Instr) : (s.withPending v).journal = s.journal := rfl
@[simp] theorem withPending_pending (s : State) (v : List Instr) : (s.withPending v).pending = v := rfl

/-! ### setTool -/

@[simp] theorem setTool_powered (s : State) (n : Nat) (t : Tool) : (s.setTool n t).powered = s.powered := rfl
@[simp] theorem setTool_clock (s : State) (n : Nat) (t : Tool) : (s.setTool n t).clock = s.clock := rfl
@[simp] theorem setTool_tools (s : State) (n : Nat) (t : Tool) : (s.setTool n t).tools = tablePut s.tools n t := rfl
@[simp] theorem setTool_groups (s : State) (n : Nat) (t : Tool) : (s.setTool n t).groups = s.groups := rfl
@[simp] theorem setTool_configs (s : State) (n : Nat) (t : Tool) : (s.setTool n t).configs = s.configs := rfl
@[simp] theorem setTool_monitors (s : State) (n : Nat) (t : Tool) : (s.setTool n t).monitors = s.monitors := rfl
@[simp] theorem setTool_captures (s : State) (n : Nat) (t : Tool) : (s.setTool n t).captures = s.captures := rfl
@[simp] theorem setTool_incidents (s : State) (n : Nat) (t : Tool) : (s.setTool n t).incidents = s.incidents := rfl
@[simp] theorem setTool_flags (s : State) (n : Nat) (t : Tool) : (s.setTool n t).flags = s.flags := rfl
@[simp] theorem setTool_positions (s : State) (n : Nat) (t : Tool) : (s.setTool n t).positions = s.positions := rfl
@[simp] theorem setTool_notices (s : State) (n : Nat) (t : Tool) : (s.setTool n t).notices = s.notices := rfl
@[simp] theorem setTool_link (s : State) (n : Nat) (t : Tool) : (s.setTool n t).link = s.link := rfl
@[simp] theorem setTool_journal (s : State) (n : Nat) (t : Tool) : (s.setTool n t).journal = s.journal := rfl
@[simp] theorem setTool_pending (s : State) (n : Nat) (t : Tool) : (s.setTool n t).pending = s.pending := rfl

/-! ### eraseTool -/

@[simp] theorem eraseTool_powered (s : State) (n : Nat) : (s.eraseTool n).powered = s.powered := rfl
@[simp] theorem eraseTool_clock (s : State) (n : Nat) : (s.eraseTool n).clock = s.clock := rfl
@[simp] theorem eraseTool_tools (s : State) (n : Nat) : (s.eraseTool n).tools = tableErase s.tools n := rfl
@[simp] theorem eraseTool_groups (s : State) (n : Nat) : (s.eraseTool n).groups = s.groups := rfl
@[simp] theorem eraseTool_configs (s : State) (n : Nat) : (s.eraseTool n).configs = s.configs := rfl
@[simp] theorem eraseTool_monitors (s : State) (n : Nat) : (s.eraseTool n).monitors = s.monitors := rfl
@[simp] theorem eraseTool_captures (s : State) (n : Nat) : (s.eraseTool n).captures = s.captures := rfl
@[simp] theorem eraseTool_incidents (s : State) (n : Nat) : (s.eraseTool n).incidents = s.incidents := rfl
@[simp] theorem eraseTool_flags (s : State) (n : Nat) : (s.eraseTool n).flags = s.flags := rfl
@[simp] theorem eraseTool_positions (s : State) (n : Nat) : (s.eraseTool n).positions = s.positions := rfl
@[simp] theorem eraseTool_notices (s : State) (n : Nat) : (s.eraseTool n).notices = s.notices := rfl
@[simp] theorem eraseTool_link (s : State) (n : Nat) : (s.eraseTool n).link = s.link := rfl
@[simp] theorem eraseTool_journal (s : State) (n : Nat) : (s.eraseTool n).journal = s.journal := rfl
@[simp] theorem eraseTool_pending (s : State) (n : Nat) : (s.eraseTool n).pending = s.pending := rfl

/-! ### setGroup -/

@[simp] theorem setGroup_powered (s : State) (n : Nat) (g : Group) : (s.setGroup n g).powered = s.powered := rfl
@[simp] theorem setGroup_clock (s : State) (n : Nat) (g : Group) : (s.setGroup n g).clock = s.clock := rfl
@[simp] theorem setGroup_tools (s : State) (n : Nat) (g : Group) : (s.setGroup n g).tools = s.tools := rfl
@[simp] theorem setGroup_groups (s : State) (n : Nat) (g : Group) : (s.setGroup n g).groups = tablePut s.groups n g := rfl
@[simp] theorem setGroup_configs (s : State) (n : Nat) (g : Group) : (s.setGroup n g).configs = s.configs := rfl
@[simp] theorem setGroup_monitors (s : State) (n : Nat) (g : Group) : (s.setGroup n g).monitors = s.monitors := rfl
@[simp] theorem setGroup_captures (s : State) (n : Nat) (g : Group) : (s.setGroup n g).captures = s.captures := rfl
@[simp] theorem setGroup_incidents (s : State) (n : Nat) (g : Group) : (s.setGroup n g).incidents = s.incidents := rfl
@[simp] theorem setGroup_flags (s : State) (n : Nat) (g : Group) : (s.setGroup n g).flags = s.flags := rfl
@[simp] theorem setGroup_positions (s : State) (n : Nat) (g : Group) : (s.setGroup n g).positions = s.positions := rfl
@[simp] theorem setGroup_notices (s : State) (n : Nat) (g : Group) : (s.setGroup n g).notices = s.notices := rfl
@[simp] theorem setGroup_link (s : State) (n : Nat) (g : Group) : (s.setGroup n g).link = s.link := rfl
@[simp] theorem setGroup_journal (s : State) (n : Nat) (g : Group) : (s.setGroup n g).journal = s.journal := rfl
@[simp] theorem setGroup_pending (s : State) (n : Nat) (g : Group) : (s.setGroup n g).pending = s.pending := rfl

/-! ### eraseGroup -/

@[simp] theorem eraseGroup_powered (s : State) (n : Nat) : (s.eraseGroup n).powered = s.powered := rfl
@[simp] theorem eraseGroup_clock (s : State) (n : Nat) : (s.eraseGroup n).clock = s.clock := rfl
@[simp] theorem eraseGroup_tools (s : State) (n : Nat) : (s.eraseGroup n).tools = s.tools := rfl
@[simp] theorem eraseGroup_groups (s : State) (n : Nat) : (s.eraseGroup n).groups = tableErase s.groups n := rfl
@[simp] theorem eraseGroup_configs (s : State) (n : Nat) : (s.eraseGroup n).configs = s.configs := rfl
@[simp] theorem eraseGroup_monitors (s : State) (n : Nat) : (s.eraseGroup n).monitors = s.monitors := rfl
@[simp] theorem eraseGroup_captures (s : State) (n : Nat) : (s.eraseGroup n).captures = s.captures := rfl
@[simp] theorem eraseGroup_incidents (s : State) (n : Nat) : (s.eraseGroup n).incidents = s.incidents := rfl
@[simp] theorem eraseGroup_flags (s : State) (n : Nat) : (s.eraseGroup n).flags = s.flags := rfl
@[simp] theorem eraseGroup_positions (s : State) (n : Nat) : (s.eraseGroup n).positions = s.positions := rfl
@[simp] theorem eraseGroup_notices (s : State) (n : Nat) : (s.eraseGroup n).notices = s.notices := rfl
@[simp] theorem eraseGroup_link (s : State) (n : Nat) : (s.eraseGroup n).link = s.link := rfl
@[simp] theorem eraseGroup_journal (s : State) (n : Nat) : (s.eraseGroup n).journal = s.journal := rfl
@[simp] theorem eraseGroup_pending (s : State) (n : Nat) : (s.eraseGroup n).pending = s.pending := rfl

/-! ### setConfig -/

@[simp] theorem setConfig_powered (s : State) (st : Fin 6) (x : StationConfig) : (s.setConfig st x).powered = s.powered := rfl
@[simp] theorem setConfig_clock (s : State) (st : Fin 6) (x : StationConfig) : (s.setConfig st x).clock = s.clock := rfl
@[simp] theorem setConfig_tools (s : State) (st : Fin 6) (x : StationConfig) : (s.setConfig st x).tools = s.tools := rfl
@[simp] theorem setConfig_groups (s : State) (st : Fin 6) (x : StationConfig) : (s.setConfig st x).groups = s.groups := rfl
@[simp] theorem setConfig_configs (s : State) (st : Fin 6) (x : StationConfig) : (s.setConfig st x).configs = s.configs.set st x := rfl
@[simp] theorem setConfig_monitors (s : State) (st : Fin 6) (x : StationConfig) : (s.setConfig st x).monitors = s.monitors := rfl
@[simp] theorem setConfig_captures (s : State) (st : Fin 6) (x : StationConfig) : (s.setConfig st x).captures = s.captures := rfl
@[simp] theorem setConfig_incidents (s : State) (st : Fin 6) (x : StationConfig) : (s.setConfig st x).incidents = s.incidents := rfl
@[simp] theorem setConfig_flags (s : State) (st : Fin 6) (x : StationConfig) : (s.setConfig st x).flags = s.flags := rfl
@[simp] theorem setConfig_positions (s : State) (st : Fin 6) (x : StationConfig) : (s.setConfig st x).positions = s.positions := rfl
@[simp] theorem setConfig_notices (s : State) (st : Fin 6) (x : StationConfig) : (s.setConfig st x).notices = s.notices := rfl
@[simp] theorem setConfig_link (s : State) (st : Fin 6) (x : StationConfig) : (s.setConfig st x).link = s.link := rfl
@[simp] theorem setConfig_journal (s : State) (st : Fin 6) (x : StationConfig) : (s.setConfig st x).journal = s.journal := rfl
@[simp] theorem setConfig_pending (s : State) (st : Fin 6) (x : StationConfig) : (s.setConfig st x).pending = s.pending := rfl

/-! ### setMonitor -/

@[simp] theorem setMonitor_powered (s : State) (st : Fin 6) (x : Monitor) : (s.setMonitor st x).powered = s.powered := rfl
@[simp] theorem setMonitor_clock (s : State) (st : Fin 6) (x : Monitor) : (s.setMonitor st x).clock = s.clock := rfl
@[simp] theorem setMonitor_tools (s : State) (st : Fin 6) (x : Monitor) : (s.setMonitor st x).tools = s.tools := rfl
@[simp] theorem setMonitor_groups (s : State) (st : Fin 6) (x : Monitor) : (s.setMonitor st x).groups = s.groups := rfl
@[simp] theorem setMonitor_configs (s : State) (st : Fin 6) (x : Monitor) : (s.setMonitor st x).configs = s.configs := rfl
@[simp] theorem setMonitor_monitors (s : State) (st : Fin 6) (x : Monitor) : (s.setMonitor st x).monitors = s.monitors.set st x := rfl
@[simp] theorem setMonitor_captures (s : State) (st : Fin 6) (x : Monitor) : (s.setMonitor st x).captures = s.captures := rfl
@[simp] theorem setMonitor_incidents (s : State) (st : Fin 6) (x : Monitor) : (s.setMonitor st x).incidents = s.incidents := rfl
@[simp] theorem setMonitor_flags (s : State) (st : Fin 6) (x : Monitor) : (s.setMonitor st x).flags = s.flags := rfl
@[simp] theorem setMonitor_positions (s : State) (st : Fin 6) (x : Monitor) : (s.setMonitor st x).positions = s.positions := rfl
@[simp] theorem setMonitor_notices (s : State) (st : Fin 6) (x : Monitor) : (s.setMonitor st x).notices = s.notices := rfl
@[simp] theorem setMonitor_link (s : State) (st : Fin 6) (x : Monitor) : (s.setMonitor st x).link = s.link := rfl
@[simp] theorem setMonitor_journal (s : State) (st : Fin 6) (x : Monitor) : (s.setMonitor st x).journal = s.journal := rfl
@[simp] theorem setMonitor_pending (s : State) (st : Fin 6) (x : Monitor) : (s.setMonitor st x).pending = s.pending := rfl

/-! ### setCapture -/

@[simp] theorem setCapture_powered (s : State) (st : Fin 6) (x : Capture) : (s.setCapture st x).powered = s.powered := rfl
@[simp] theorem setCapture_clock (s : State) (st : Fin 6) (x : Capture) : (s.setCapture st x).clock = s.clock := rfl
@[simp] theorem setCapture_tools (s : State) (st : Fin 6) (x : Capture) : (s.setCapture st x).tools = s.tools := rfl
@[simp] theorem setCapture_groups (s : State) (st : Fin 6) (x : Capture) : (s.setCapture st x).groups = s.groups := rfl
@[simp] theorem setCapture_configs (s : State) (st : Fin 6) (x : Capture) : (s.setCapture st x).configs = s.configs := rfl
@[simp] theorem setCapture_monitors (s : State) (st : Fin 6) (x : Capture) : (s.setCapture st x).monitors = s.monitors := rfl
@[simp] theorem setCapture_captures (s : State) (st : Fin 6) (x : Capture) : (s.setCapture st x).captures = s.captures.set st x := rfl
@[simp] theorem setCapture_incidents (s : State) (st : Fin 6) (x : Capture) : (s.setCapture st x).incidents = s.incidents := rfl
@[simp] theorem setCapture_flags (s : State) (st : Fin 6) (x : Capture) : (s.setCapture st x).flags = s.flags := rfl
@[simp] theorem setCapture_positions (s : State) (st : Fin 6) (x : Capture) : (s.setCapture st x).positions = s.positions := rfl
@[simp] theorem setCapture_notices (s : State) (st : Fin 6) (x : Capture) : (s.setCapture st x).notices = s.notices := rfl
@[simp] theorem setCapture_link (s : State) (st : Fin 6) (x : Capture) : (s.setCapture st x).link = s.link := rfl
@[simp] theorem setCapture_journal (s : State) (st : Fin 6) (x : Capture) : (s.setCapture st x).journal = s.journal := rfl
@[simp] theorem setCapture_pending (s : State) (st : Fin 6) (x : Capture) : (s.setCapture st x).pending = s.pending := rfl

/-! ### setIncident -/

@[simp] theorem setIncident_powered (s : State) (st : Fin 6) (x : Incident) : (s.setIncident st x).powered = s.powered := rfl
@[simp] theorem setIncident_clock (s : State) (st : Fin 6) (x : Incident) : (s.setIncident st x).clock = s.clock := rfl
@[simp] theorem setIncident_tools (s : State) (st : Fin 6) (x : Incident) : (s.setIncident st x).tools = s.tools := rfl
@[simp] theorem setIncident_groups (s : State) (st : Fin 6) (x : Incident) : (s.setIncident st x).groups = s.groups := rfl
@[simp] theorem setIncident_configs (s : State) (st : Fin 6) (x : Incident) : (s.setIncident st x).configs = s.configs := rfl
@[simp] theorem setIncident_monitors (s : State) (st : Fin 6) (x : Incident) : (s.setIncident st x).monitors = s.monitors := rfl
@[simp] theorem setIncident_captures (s : State) (st : Fin 6) (x : Incident) : (s.setIncident st x).captures = s.captures := rfl
@[simp] theorem setIncident_incidents (s : State) (st : Fin 6) (x : Incident) : (s.setIncident st x).incidents = s.incidents.set st x := rfl
@[simp] theorem setIncident_flags (s : State) (st : Fin 6) (x : Incident) : (s.setIncident st x).flags = s.flags := rfl
@[simp] theorem setIncident_positions (s : State) (st : Fin 6) (x : Incident) : (s.setIncident st x).positions = s.positions := rfl
@[simp] theorem setIncident_notices (s : State) (st : Fin 6) (x : Incident) : (s.setIncident st x).notices = s.notices := rfl
@[simp] theorem setIncident_link (s : State) (st : Fin 6) (x : Incident) : (s.setIncident st x).link = s.link := rfl
@[simp] theorem setIncident_journal (s : State) (st : Fin 6) (x : Incident) : (s.setIncident st x).journal = s.journal := rfl
@[simp] theorem setIncident_pending (s : State) (st : Fin 6) (x : Incident) : (s.setIncident st x).pending = s.pending := rfl

/-! ### setFlag -/

@[simp] theorem setFlag_powered (s : State) (st : Fin 6) (x : StationFlags) : (s.setFlag st x).powered = s.powered := rfl
@[simp] theorem setFlag_clock (s : State) (st : Fin 6) (x : StationFlags) : (s.setFlag st x).clock = s.clock := rfl
@[simp] theorem setFlag_tools (s : State) (st : Fin 6) (x : StationFlags) : (s.setFlag st x).tools = s.tools := rfl
@[simp] theorem setFlag_groups (s : State) (st : Fin 6) (x : StationFlags) : (s.setFlag st x).groups = s.groups := rfl
@[simp] theorem setFlag_configs (s : State) (st : Fin 6) (x : StationFlags) : (s.setFlag st x).configs = s.configs := rfl
@[simp] theorem setFlag_monitors (s : State) (st : Fin 6) (x : StationFlags) : (s.setFlag st x).monitors = s.monitors := rfl
@[simp] theorem setFlag_captures (s : State) (st : Fin 6) (x : StationFlags) : (s.setFlag st x).captures = s.captures := rfl
@[simp] theorem setFlag_incidents (s : State) (st : Fin 6) (x : StationFlags) : (s.setFlag st x).incidents = s.incidents := rfl
@[simp] theorem setFlag_flags (s : State) (st : Fin 6) (x : StationFlags) : (s.setFlag st x).flags = s.flags.set st x := rfl
@[simp] theorem setFlag_positions (s : State) (st : Fin 6) (x : StationFlags) : (s.setFlag st x).positions = s.positions := rfl
@[simp] theorem setFlag_notices (s : State) (st : Fin 6) (x : StationFlags) : (s.setFlag st x).notices = s.notices := rfl
@[simp] theorem setFlag_link (s : State) (st : Fin 6) (x : StationFlags) : (s.setFlag st x).link = s.link := rfl
@[simp] theorem setFlag_journal (s : State) (st : Fin 6) (x : StationFlags) : (s.setFlag st x).journal = s.journal := rfl
@[simp] theorem setFlag_pending (s : State) (st : Fin 6) (x : StationFlags) : (s.setFlag st x).pending = s.pending := rfl

/-! ### setPosition -/

@[simp] theorem setPosition_powered (s : State) (p : Fin 12) (x : Position) : (s.setPosition p x).powered = s.powered := rfl
@[simp] theorem setPosition_clock (s : State) (p : Fin 12) (x : Position) : (s.setPosition p x).clock = s.clock := rfl
@[simp] theorem setPosition_tools (s : State) (p : Fin 12) (x : Position) : (s.setPosition p x).tools = s.tools := rfl
@[simp] theorem setPosition_groups (s : State) (p : Fin 12) (x : Position) : (s.setPosition p x).groups = s.groups := rfl
@[simp] theorem setPosition_configs (s : State) (p : Fin 12) (x : Position) : (s.setPosition p x).configs = s.configs := rfl
@[simp] theorem setPosition_monitors (s : State) (p : Fin 12) (x : Position) : (s.setPosition p x).monitors = s.monitors := rfl
@[simp] theorem setPosition_captures (s : State) (p : Fin 12) (x : Position) : (s.setPosition p x).captures = s.captures := rfl
@[simp] theorem setPosition_incidents (s : State) (p : Fin 12) (x : Position) : (s.setPosition p x).incidents = s.incidents := rfl
@[simp] theorem setPosition_flags (s : State) (p : Fin 12) (x : Position) : (s.setPosition p x).flags = s.flags := rfl
@[simp] theorem setPosition_positions (s : State) (p : Fin 12) (x : Position) : (s.setPosition p x).positions = s.positions.set p x := rfl
@[simp] theorem setPosition_notices (s : State) (p : Fin 12) (x : Position) : (s.setPosition p x).notices = s.notices := rfl
@[simp] theorem setPosition_link (s : State) (p : Fin 12) (x : Position) : (s.setPosition p x).link = s.link := rfl
@[simp] theorem setPosition_journal (s : State) (p : Fin 12) (x : Position) : (s.setPosition p x).journal = s.journal := rfl
@[simp] theorem setPosition_pending (s : State) (p : Fin 12) (x : Position) : (s.setPosition p x).pending = s.pending := rfl

/-! ### Reads after the whole-field updates -/

@[simp] theorem withPowered_toolGet (s : State) (v : Bool) (m : Nat) : (s.withPowered v).tool? m = s.tool? m := rfl
@[simp] theorem withClock_toolGet (s : State) (v : Nat) (m : Nat) : (s.withClock v).tool? m = s.tool? m := rfl
@[simp] theorem withTools_toolGet (s : State) (v : Table Tool) (m : Nat) : (s.withTools v).tool? m = tableGet v m := rfl
@[simp] theorem withGroups_toolGet (s : State) (v : Table Group) (m : Nat) : (s.withGroups v).tool? m = s.tool? m := rfl
@[simp] theorem withConfigs_toolGet (s : State) (v : Vector StationConfig 6) (m : Nat) : (s.withConfigs v).tool? m = s.tool? m := rfl
@[simp] theorem withMonitors_toolGet (s : State) (v : Vector Monitor 6) (m : Nat) : (s.withMonitors v).tool? m = s.tool? m := rfl
@[simp] theorem withCaptures_toolGet (s : State) (v : Vector Capture 6) (m : Nat) : (s.withCaptures v).tool? m = s.tool? m := rfl
@[simp] theorem withIncidents_toolGet (s : State) (v : Vector Incident 6) (m : Nat) : (s.withIncidents v).tool? m = s.tool? m := rfl
@[simp] theorem withFlags_toolGet (s : State) (v : Vector StationFlags 6) (m : Nat) : (s.withFlags v).tool? m = s.tool? m := rfl
@[simp] theorem withPositions_toolGet (s : State) (v : Vector Position 12) (m : Nat) : (s.withPositions v).tool? m = s.tool? m := rfl
@[simp] theorem withNotices_toolGet (s : State) (v : NoticeQueues) (m : Nat) : (s.withNotices v).tool? m = s.tool? m := rfl
@[simp] theorem withLink_toolGet (s : State) (v : LinkPort) (m : Nat) : (s.withLink v).tool? m = s.tool? m := rfl
@[simp] theorem withJournal_toolGet (s : State) (v : List Commit) (m : Nat) : (s.withJournal v).tool? m = s.tool? m := rfl
@[simp] theorem withPending_toolGet (s : State) (v : List Instr) (m : Nat) : (s.withPending v).tool? m = s.tool? m := rfl

@[simp] theorem withPowered_groupGet (s : State) (v : Bool) (m : Nat) : (s.withPowered v).group? m = s.group? m := rfl
@[simp] theorem withClock_groupGet (s : State) (v : Nat) (m : Nat) : (s.withClock v).group? m = s.group? m := rfl
@[simp] theorem withTools_groupGet (s : State) (v : Table Tool) (m : Nat) : (s.withTools v).group? m = s.group? m := rfl
@[simp] theorem withGroups_groupGet (s : State) (v : Table Group) (m : Nat) : (s.withGroups v).group? m = tableGet v m := rfl
@[simp] theorem withConfigs_groupGet (s : State) (v : Vector StationConfig 6) (m : Nat) : (s.withConfigs v).group? m = s.group? m := rfl
@[simp] theorem withMonitors_groupGet (s : State) (v : Vector Monitor 6) (m : Nat) : (s.withMonitors v).group? m = s.group? m := rfl
@[simp] theorem withCaptures_groupGet (s : State) (v : Vector Capture 6) (m : Nat) : (s.withCaptures v).group? m = s.group? m := rfl
@[simp] theorem withIncidents_groupGet (s : State) (v : Vector Incident 6) (m : Nat) : (s.withIncidents v).group? m = s.group? m := rfl
@[simp] theorem withFlags_groupGet (s : State) (v : Vector StationFlags 6) (m : Nat) : (s.withFlags v).group? m = s.group? m := rfl
@[simp] theorem withPositions_groupGet (s : State) (v : Vector Position 12) (m : Nat) : (s.withPositions v).group? m = s.group? m := rfl
@[simp] theorem withNotices_groupGet (s : State) (v : NoticeQueues) (m : Nat) : (s.withNotices v).group? m = s.group? m := rfl
@[simp] theorem withLink_groupGet (s : State) (v : LinkPort) (m : Nat) : (s.withLink v).group? m = s.group? m := rfl
@[simp] theorem withJournal_groupGet (s : State) (v : List Commit) (m : Nat) : (s.withJournal v).group? m = s.group? m := rfl
@[simp] theorem withPending_groupGet (s : State) (v : List Instr) (m : Nat) : (s.withPending v).group? m = s.group? m := rfl

@[simp] theorem withPowered_config (s : State) (v : Bool) (i : Fin 6) : (s.withPowered v).config i = s.config i := rfl
@[simp] theorem withClock_config (s : State) (v : Nat) (i : Fin 6) : (s.withClock v).config i = s.config i := rfl
@[simp] theorem withTools_config (s : State) (v : Table Tool) (i : Fin 6) : (s.withTools v).config i = s.config i := rfl
@[simp] theorem withGroups_config (s : State) (v : Table Group) (i : Fin 6) : (s.withGroups v).config i = s.config i := rfl
@[simp] theorem withConfigs_config (s : State) (v : Vector StationConfig 6) (i : Fin 6) : (s.withConfigs v).config i = v[i] := rfl
@[simp] theorem withMonitors_config (s : State) (v : Vector Monitor 6) (i : Fin 6) : (s.withMonitors v).config i = s.config i := rfl
@[simp] theorem withCaptures_config (s : State) (v : Vector Capture 6) (i : Fin 6) : (s.withCaptures v).config i = s.config i := rfl
@[simp] theorem withIncidents_config (s : State) (v : Vector Incident 6) (i : Fin 6) : (s.withIncidents v).config i = s.config i := rfl
@[simp] theorem withFlags_config (s : State) (v : Vector StationFlags 6) (i : Fin 6) : (s.withFlags v).config i = s.config i := rfl
@[simp] theorem withPositions_config (s : State) (v : Vector Position 12) (i : Fin 6) : (s.withPositions v).config i = s.config i := rfl
@[simp] theorem withNotices_config (s : State) (v : NoticeQueues) (i : Fin 6) : (s.withNotices v).config i = s.config i := rfl
@[simp] theorem withLink_config (s : State) (v : LinkPort) (i : Fin 6) : (s.withLink v).config i = s.config i := rfl
@[simp] theorem withJournal_config (s : State) (v : List Commit) (i : Fin 6) : (s.withJournal v).config i = s.config i := rfl
@[simp] theorem withPending_config (s : State) (v : List Instr) (i : Fin 6) : (s.withPending v).config i = s.config i := rfl

@[simp] theorem withPowered_monitor (s : State) (v : Bool) (i : Fin 6) : (s.withPowered v).monitor i = s.monitor i := rfl
@[simp] theorem withClock_monitor (s : State) (v : Nat) (i : Fin 6) : (s.withClock v).monitor i = s.monitor i := rfl
@[simp] theorem withTools_monitor (s : State) (v : Table Tool) (i : Fin 6) : (s.withTools v).monitor i = s.monitor i := rfl
@[simp] theorem withGroups_monitor (s : State) (v : Table Group) (i : Fin 6) : (s.withGroups v).monitor i = s.monitor i := rfl
@[simp] theorem withConfigs_monitor (s : State) (v : Vector StationConfig 6) (i : Fin 6) : (s.withConfigs v).monitor i = s.monitor i := rfl
@[simp] theorem withMonitors_monitor (s : State) (v : Vector Monitor 6) (i : Fin 6) : (s.withMonitors v).monitor i = v[i] := rfl
@[simp] theorem withCaptures_monitor (s : State) (v : Vector Capture 6) (i : Fin 6) : (s.withCaptures v).monitor i = s.monitor i := rfl
@[simp] theorem withIncidents_monitor (s : State) (v : Vector Incident 6) (i : Fin 6) : (s.withIncidents v).monitor i = s.monitor i := rfl
@[simp] theorem withFlags_monitor (s : State) (v : Vector StationFlags 6) (i : Fin 6) : (s.withFlags v).monitor i = s.monitor i := rfl
@[simp] theorem withPositions_monitor (s : State) (v : Vector Position 12) (i : Fin 6) : (s.withPositions v).monitor i = s.monitor i := rfl
@[simp] theorem withNotices_monitor (s : State) (v : NoticeQueues) (i : Fin 6) : (s.withNotices v).monitor i = s.monitor i := rfl
@[simp] theorem withLink_monitor (s : State) (v : LinkPort) (i : Fin 6) : (s.withLink v).monitor i = s.monitor i := rfl
@[simp] theorem withJournal_monitor (s : State) (v : List Commit) (i : Fin 6) : (s.withJournal v).monitor i = s.monitor i := rfl
@[simp] theorem withPending_monitor (s : State) (v : List Instr) (i : Fin 6) : (s.withPending v).monitor i = s.monitor i := rfl

@[simp] theorem withPowered_capture (s : State) (v : Bool) (i : Fin 6) : (s.withPowered v).capture i = s.capture i := rfl
@[simp] theorem withClock_capture (s : State) (v : Nat) (i : Fin 6) : (s.withClock v).capture i = s.capture i := rfl
@[simp] theorem withTools_capture (s : State) (v : Table Tool) (i : Fin 6) : (s.withTools v).capture i = s.capture i := rfl
@[simp] theorem withGroups_capture (s : State) (v : Table Group) (i : Fin 6) : (s.withGroups v).capture i = s.capture i := rfl
@[simp] theorem withConfigs_capture (s : State) (v : Vector StationConfig 6) (i : Fin 6) : (s.withConfigs v).capture i = s.capture i := rfl
@[simp] theorem withMonitors_capture (s : State) (v : Vector Monitor 6) (i : Fin 6) : (s.withMonitors v).capture i = s.capture i := rfl
@[simp] theorem withCaptures_capture (s : State) (v : Vector Capture 6) (i : Fin 6) : (s.withCaptures v).capture i = v[i] := rfl
@[simp] theorem withIncidents_capture (s : State) (v : Vector Incident 6) (i : Fin 6) : (s.withIncidents v).capture i = s.capture i := rfl
@[simp] theorem withFlags_capture (s : State) (v : Vector StationFlags 6) (i : Fin 6) : (s.withFlags v).capture i = s.capture i := rfl
@[simp] theorem withPositions_capture (s : State) (v : Vector Position 12) (i : Fin 6) : (s.withPositions v).capture i = s.capture i := rfl
@[simp] theorem withNotices_capture (s : State) (v : NoticeQueues) (i : Fin 6) : (s.withNotices v).capture i = s.capture i := rfl
@[simp] theorem withLink_capture (s : State) (v : LinkPort) (i : Fin 6) : (s.withLink v).capture i = s.capture i := rfl
@[simp] theorem withJournal_capture (s : State) (v : List Commit) (i : Fin 6) : (s.withJournal v).capture i = s.capture i := rfl
@[simp] theorem withPending_capture (s : State) (v : List Instr) (i : Fin 6) : (s.withPending v).capture i = s.capture i := rfl

@[simp] theorem withPowered_incident (s : State) (v : Bool) (i : Fin 6) : (s.withPowered v).incident i = s.incident i := rfl
@[simp] theorem withClock_incident (s : State) (v : Nat) (i : Fin 6) : (s.withClock v).incident i = s.incident i := rfl
@[simp] theorem withTools_incident (s : State) (v : Table Tool) (i : Fin 6) : (s.withTools v).incident i = s.incident i := rfl
@[simp] theorem withGroups_incident (s : State) (v : Table Group) (i : Fin 6) : (s.withGroups v).incident i = s.incident i := rfl
@[simp] theorem withConfigs_incident (s : State) (v : Vector StationConfig 6) (i : Fin 6) : (s.withConfigs v).incident i = s.incident i := rfl
@[simp] theorem withMonitors_incident (s : State) (v : Vector Monitor 6) (i : Fin 6) : (s.withMonitors v).incident i = s.incident i := rfl
@[simp] theorem withCaptures_incident (s : State) (v : Vector Capture 6) (i : Fin 6) : (s.withCaptures v).incident i = s.incident i := rfl
@[simp] theorem withIncidents_incident (s : State) (v : Vector Incident 6) (i : Fin 6) : (s.withIncidents v).incident i = v[i] := rfl
@[simp] theorem withFlags_incident (s : State) (v : Vector StationFlags 6) (i : Fin 6) : (s.withFlags v).incident i = s.incident i := rfl
@[simp] theorem withPositions_incident (s : State) (v : Vector Position 12) (i : Fin 6) : (s.withPositions v).incident i = s.incident i := rfl
@[simp] theorem withNotices_incident (s : State) (v : NoticeQueues) (i : Fin 6) : (s.withNotices v).incident i = s.incident i := rfl
@[simp] theorem withLink_incident (s : State) (v : LinkPort) (i : Fin 6) : (s.withLink v).incident i = s.incident i := rfl
@[simp] theorem withJournal_incident (s : State) (v : List Commit) (i : Fin 6) : (s.withJournal v).incident i = s.incident i := rfl
@[simp] theorem withPending_incident (s : State) (v : List Instr) (i : Fin 6) : (s.withPending v).incident i = s.incident i := rfl

@[simp] theorem withPowered_flag (s : State) (v : Bool) (i : Fin 6) : (s.withPowered v).flag i = s.flag i := rfl
@[simp] theorem withClock_flag (s : State) (v : Nat) (i : Fin 6) : (s.withClock v).flag i = s.flag i := rfl
@[simp] theorem withTools_flag (s : State) (v : Table Tool) (i : Fin 6) : (s.withTools v).flag i = s.flag i := rfl
@[simp] theorem withGroups_flag (s : State) (v : Table Group) (i : Fin 6) : (s.withGroups v).flag i = s.flag i := rfl
@[simp] theorem withConfigs_flag (s : State) (v : Vector StationConfig 6) (i : Fin 6) : (s.withConfigs v).flag i = s.flag i := rfl
@[simp] theorem withMonitors_flag (s : State) (v : Vector Monitor 6) (i : Fin 6) : (s.withMonitors v).flag i = s.flag i := rfl
@[simp] theorem withCaptures_flag (s : State) (v : Vector Capture 6) (i : Fin 6) : (s.withCaptures v).flag i = s.flag i := rfl
@[simp] theorem withIncidents_flag (s : State) (v : Vector Incident 6) (i : Fin 6) : (s.withIncidents v).flag i = s.flag i := rfl
@[simp] theorem withFlags_flag (s : State) (v : Vector StationFlags 6) (i : Fin 6) : (s.withFlags v).flag i = v[i] := rfl
@[simp] theorem withPositions_flag (s : State) (v : Vector Position 12) (i : Fin 6) : (s.withPositions v).flag i = s.flag i := rfl
@[simp] theorem withNotices_flag (s : State) (v : NoticeQueues) (i : Fin 6) : (s.withNotices v).flag i = s.flag i := rfl
@[simp] theorem withLink_flag (s : State) (v : LinkPort) (i : Fin 6) : (s.withLink v).flag i = s.flag i := rfl
@[simp] theorem withJournal_flag (s : State) (v : List Commit) (i : Fin 6) : (s.withJournal v).flag i = s.flag i := rfl
@[simp] theorem withPending_flag (s : State) (v : List Instr) (i : Fin 6) : (s.withPending v).flag i = s.flag i := rfl

@[simp] theorem withPowered_position (s : State) (v : Bool) (i : Fin 12) : (s.withPowered v).position i = s.position i := rfl
@[simp] theorem withClock_position (s : State) (v : Nat) (i : Fin 12) : (s.withClock v).position i = s.position i := rfl
@[simp] theorem withTools_position (s : State) (v : Table Tool) (i : Fin 12) : (s.withTools v).position i = s.position i := rfl
@[simp] theorem withGroups_position (s : State) (v : Table Group) (i : Fin 12) : (s.withGroups v).position i = s.position i := rfl
@[simp] theorem withConfigs_position (s : State) (v : Vector StationConfig 6) (i : Fin 12) : (s.withConfigs v).position i = s.position i := rfl
@[simp] theorem withMonitors_position (s : State) (v : Vector Monitor 6) (i : Fin 12) : (s.withMonitors v).position i = s.position i := rfl
@[simp] theorem withCaptures_position (s : State) (v : Vector Capture 6) (i : Fin 12) : (s.withCaptures v).position i = s.position i := rfl
@[simp] theorem withIncidents_position (s : State) (v : Vector Incident 6) (i : Fin 12) : (s.withIncidents v).position i = s.position i := rfl
@[simp] theorem withFlags_position (s : State) (v : Vector StationFlags 6) (i : Fin 12) : (s.withFlags v).position i = s.position i := rfl
@[simp] theorem withPositions_position (s : State) (v : Vector Position 12) (i : Fin 12) : (s.withPositions v).position i = v[i] := rfl
@[simp] theorem withNotices_position (s : State) (v : NoticeQueues) (i : Fin 12) : (s.withNotices v).position i = s.position i := rfl
@[simp] theorem withLink_position (s : State) (v : LinkPort) (i : Fin 12) : (s.withLink v).position i = s.position i := rfl
@[simp] theorem withJournal_position (s : State) (v : List Commit) (i : Fin 12) : (s.withJournal v).position i = s.position i := rfl
@[simp] theorem withPending_position (s : State) (v : List Instr) (i : Fin 12) : (s.withPending v).position i = s.position i := rfl

/-! ### Reads after the writes of one record of another sort -/

@[simp] theorem setTool_groupGet (s : State) (n : Nat) (t : Tool) (m : Nat) : (s.setTool n t).group? m = s.group? m := rfl
@[simp] theorem setTool_config (s : State) (n : Nat) (t : Tool) (i : Fin 6) : (s.setTool n t).config i = s.config i := rfl
@[simp] theorem setTool_monitor (s : State) (n : Nat) (t : Tool) (i : Fin 6) : (s.setTool n t).monitor i = s.monitor i := rfl
@[simp] theorem setTool_capture (s : State) (n : Nat) (t : Tool) (i : Fin 6) : (s.setTool n t).capture i = s.capture i := rfl
@[simp] theorem setTool_incident (s : State) (n : Nat) (t : Tool) (i : Fin 6) : (s.setTool n t).incident i = s.incident i := rfl
@[simp] theorem setTool_flag (s : State) (n : Nat) (t : Tool) (i : Fin 6) : (s.setTool n t).flag i = s.flag i := rfl
@[simp] theorem setTool_position (s : State) (n : Nat) (t : Tool) (i : Fin 12) : (s.setTool n t).position i = s.position i := rfl

@[simp] theorem eraseTool_groupGet (s : State) (n : Nat) (m : Nat) : (s.eraseTool n).group? m = s.group? m := rfl
@[simp] theorem eraseTool_config (s : State) (n : Nat) (i : Fin 6) : (s.eraseTool n).config i = s.config i := rfl
@[simp] theorem eraseTool_monitor (s : State) (n : Nat) (i : Fin 6) : (s.eraseTool n).monitor i = s.monitor i := rfl
@[simp] theorem eraseTool_capture (s : State) (n : Nat) (i : Fin 6) : (s.eraseTool n).capture i = s.capture i := rfl
@[simp] theorem eraseTool_incident (s : State) (n : Nat) (i : Fin 6) : (s.eraseTool n).incident i = s.incident i := rfl
@[simp] theorem eraseTool_flag (s : State) (n : Nat) (i : Fin 6) : (s.eraseTool n).flag i = s.flag i := rfl
@[simp] theorem eraseTool_position (s : State) (n : Nat) (i : Fin 12) : (s.eraseTool n).position i = s.position i := rfl

@[simp] theorem setGroup_toolGet (s : State) (n : Nat) (g : Group) (m : Nat) : (s.setGroup n g).tool? m = s.tool? m := rfl
@[simp] theorem setGroup_config (s : State) (n : Nat) (g : Group) (i : Fin 6) : (s.setGroup n g).config i = s.config i := rfl
@[simp] theorem setGroup_monitor (s : State) (n : Nat) (g : Group) (i : Fin 6) : (s.setGroup n g).monitor i = s.monitor i := rfl
@[simp] theorem setGroup_capture (s : State) (n : Nat) (g : Group) (i : Fin 6) : (s.setGroup n g).capture i = s.capture i := rfl
@[simp] theorem setGroup_incident (s : State) (n : Nat) (g : Group) (i : Fin 6) : (s.setGroup n g).incident i = s.incident i := rfl
@[simp] theorem setGroup_flag (s : State) (n : Nat) (g : Group) (i : Fin 6) : (s.setGroup n g).flag i = s.flag i := rfl
@[simp] theorem setGroup_position (s : State) (n : Nat) (g : Group) (i : Fin 12) : (s.setGroup n g).position i = s.position i := rfl

@[simp] theorem eraseGroup_toolGet (s : State) (n : Nat) (m : Nat) : (s.eraseGroup n).tool? m = s.tool? m := rfl
@[simp] theorem eraseGroup_config (s : State) (n : Nat) (i : Fin 6) : (s.eraseGroup n).config i = s.config i := rfl
@[simp] theorem eraseGroup_monitor (s : State) (n : Nat) (i : Fin 6) : (s.eraseGroup n).monitor i = s.monitor i := rfl
@[simp] theorem eraseGroup_capture (s : State) (n : Nat) (i : Fin 6) : (s.eraseGroup n).capture i = s.capture i := rfl
@[simp] theorem eraseGroup_incident (s : State) (n : Nat) (i : Fin 6) : (s.eraseGroup n).incident i = s.incident i := rfl
@[simp] theorem eraseGroup_flag (s : State) (n : Nat) (i : Fin 6) : (s.eraseGroup n).flag i = s.flag i := rfl
@[simp] theorem eraseGroup_position (s : State) (n : Nat) (i : Fin 12) : (s.eraseGroup n).position i = s.position i := rfl

@[simp] theorem setConfig_toolGet (s : State) (st : Fin 6) (x : StationConfig) (m : Nat) : (s.setConfig st x).tool? m = s.tool? m := rfl
@[simp] theorem setConfig_groupGet (s : State) (st : Fin 6) (x : StationConfig) (m : Nat) : (s.setConfig st x).group? m = s.group? m := rfl
@[simp] theorem setConfig_monitor (s : State) (st : Fin 6) (x : StationConfig) (i : Fin 6) : (s.setConfig st x).monitor i = s.monitor i := rfl
@[simp] theorem setConfig_capture (s : State) (st : Fin 6) (x : StationConfig) (i : Fin 6) : (s.setConfig st x).capture i = s.capture i := rfl
@[simp] theorem setConfig_incident (s : State) (st : Fin 6) (x : StationConfig) (i : Fin 6) : (s.setConfig st x).incident i = s.incident i := rfl
@[simp] theorem setConfig_flag (s : State) (st : Fin 6) (x : StationConfig) (i : Fin 6) : (s.setConfig st x).flag i = s.flag i := rfl
@[simp] theorem setConfig_position (s : State) (st : Fin 6) (x : StationConfig) (i : Fin 12) : (s.setConfig st x).position i = s.position i := rfl

@[simp] theorem setMonitor_toolGet (s : State) (st : Fin 6) (x : Monitor) (m : Nat) : (s.setMonitor st x).tool? m = s.tool? m := rfl
@[simp] theorem setMonitor_groupGet (s : State) (st : Fin 6) (x : Monitor) (m : Nat) : (s.setMonitor st x).group? m = s.group? m := rfl
@[simp] theorem setMonitor_config (s : State) (st : Fin 6) (x : Monitor) (i : Fin 6) : (s.setMonitor st x).config i = s.config i := rfl
@[simp] theorem setMonitor_capture (s : State) (st : Fin 6) (x : Monitor) (i : Fin 6) : (s.setMonitor st x).capture i = s.capture i := rfl
@[simp] theorem setMonitor_incident (s : State) (st : Fin 6) (x : Monitor) (i : Fin 6) : (s.setMonitor st x).incident i = s.incident i := rfl
@[simp] theorem setMonitor_flag (s : State) (st : Fin 6) (x : Monitor) (i : Fin 6) : (s.setMonitor st x).flag i = s.flag i := rfl
@[simp] theorem setMonitor_position (s : State) (st : Fin 6) (x : Monitor) (i : Fin 12) : (s.setMonitor st x).position i = s.position i := rfl

@[simp] theorem setCapture_toolGet (s : State) (st : Fin 6) (x : Capture) (m : Nat) : (s.setCapture st x).tool? m = s.tool? m := rfl
@[simp] theorem setCapture_groupGet (s : State) (st : Fin 6) (x : Capture) (m : Nat) : (s.setCapture st x).group? m = s.group? m := rfl
@[simp] theorem setCapture_config (s : State) (st : Fin 6) (x : Capture) (i : Fin 6) : (s.setCapture st x).config i = s.config i := rfl
@[simp] theorem setCapture_monitor (s : State) (st : Fin 6) (x : Capture) (i : Fin 6) : (s.setCapture st x).monitor i = s.monitor i := rfl
@[simp] theorem setCapture_incident (s : State) (st : Fin 6) (x : Capture) (i : Fin 6) : (s.setCapture st x).incident i = s.incident i := rfl
@[simp] theorem setCapture_flag (s : State) (st : Fin 6) (x : Capture) (i : Fin 6) : (s.setCapture st x).flag i = s.flag i := rfl
@[simp] theorem setCapture_position (s : State) (st : Fin 6) (x : Capture) (i : Fin 12) : (s.setCapture st x).position i = s.position i := rfl

@[simp] theorem setIncident_toolGet (s : State) (st : Fin 6) (x : Incident) (m : Nat) : (s.setIncident st x).tool? m = s.tool? m := rfl
@[simp] theorem setIncident_groupGet (s : State) (st : Fin 6) (x : Incident) (m : Nat) : (s.setIncident st x).group? m = s.group? m := rfl
@[simp] theorem setIncident_config (s : State) (st : Fin 6) (x : Incident) (i : Fin 6) : (s.setIncident st x).config i = s.config i := rfl
@[simp] theorem setIncident_monitor (s : State) (st : Fin 6) (x : Incident) (i : Fin 6) : (s.setIncident st x).monitor i = s.monitor i := rfl
@[simp] theorem setIncident_capture (s : State) (st : Fin 6) (x : Incident) (i : Fin 6) : (s.setIncident st x).capture i = s.capture i := rfl
@[simp] theorem setIncident_flag (s : State) (st : Fin 6) (x : Incident) (i : Fin 6) : (s.setIncident st x).flag i = s.flag i := rfl
@[simp] theorem setIncident_position (s : State) (st : Fin 6) (x : Incident) (i : Fin 12) : (s.setIncident st x).position i = s.position i := rfl

@[simp] theorem setFlag_toolGet (s : State) (st : Fin 6) (x : StationFlags) (m : Nat) : (s.setFlag st x).tool? m = s.tool? m := rfl
@[simp] theorem setFlag_groupGet (s : State) (st : Fin 6) (x : StationFlags) (m : Nat) : (s.setFlag st x).group? m = s.group? m := rfl
@[simp] theorem setFlag_config (s : State) (st : Fin 6) (x : StationFlags) (i : Fin 6) : (s.setFlag st x).config i = s.config i := rfl
@[simp] theorem setFlag_monitor (s : State) (st : Fin 6) (x : StationFlags) (i : Fin 6) : (s.setFlag st x).monitor i = s.monitor i := rfl
@[simp] theorem setFlag_capture (s : State) (st : Fin 6) (x : StationFlags) (i : Fin 6) : (s.setFlag st x).capture i = s.capture i := rfl
@[simp] theorem setFlag_incident (s : State) (st : Fin 6) (x : StationFlags) (i : Fin 6) : (s.setFlag st x).incident i = s.incident i := rfl
@[simp] theorem setFlag_position (s : State) (st : Fin 6) (x : StationFlags) (i : Fin 12) : (s.setFlag st x).position i = s.position i := rfl

@[simp] theorem setPosition_toolGet (s : State) (p : Fin 12) (x : Position) (m : Nat) : (s.setPosition p x).tool? m = s.tool? m := rfl
@[simp] theorem setPosition_groupGet (s : State) (p : Fin 12) (x : Position) (m : Nat) : (s.setPosition p x).group? m = s.group? m := rfl
@[simp] theorem setPosition_config (s : State) (p : Fin 12) (x : Position) (i : Fin 6) : (s.setPosition p x).config i = s.config i := rfl
@[simp] theorem setPosition_monitor (s : State) (p : Fin 12) (x : Position) (i : Fin 6) : (s.setPosition p x).monitor i = s.monitor i := rfl
@[simp] theorem setPosition_capture (s : State) (p : Fin 12) (x : Position) (i : Fin 6) : (s.setPosition p x).capture i = s.capture i := rfl
@[simp] theorem setPosition_incident (s : State) (p : Fin 12) (x : Position) (i : Fin 6) : (s.setPosition p x).incident i = s.incident i := rfl
@[simp] theorem setPosition_flag (s : State) (p : Fin 12) (x : Position) (i : Fin 6) : (s.setPosition p x).flag i = s.flag i := rfl

/-! ### Reads after the writes of a record of the same sort -/

@[simp] theorem setConfig_config (s : State) (st : Fin 6) (x : StationConfig) (i : Fin 6) :
    (s.setConfig st x).config i = if i = st then x else s.config i := by
  simp only [setConfig, config, withConfigs_configs, Fin.getElem_fin, Vector.getElem_set]
  by_cases h : i = st
  · subst h; simp
  · have h' : ¬ (st : Nat) = i := fun e => h (Fin.ext e.symm)
    simp [h, h']

@[simp] theorem setMonitor_monitor (s : State) (st : Fin 6) (x : Monitor) (i : Fin 6) :
    (s.setMonitor st x).monitor i = if i = st then x else s.monitor i := by
  simp only [setMonitor, monitor, withMonitors_monitors, Fin.getElem_fin, Vector.getElem_set]
  by_cases h : i = st
  · subst h; simp
  · have h' : ¬ (st : Nat) = i := fun e => h (Fin.ext e.symm)
    simp [h, h']

@[simp] theorem setCapture_capture (s : State) (st : Fin 6) (x : Capture) (i : Fin 6) :
    (s.setCapture st x).capture i = if i = st then x else s.capture i := by
  simp only [setCapture, capture, withCaptures_captures, Fin.getElem_fin, Vector.getElem_set]
  by_cases h : i = st
  · subst h; simp
  · have h' : ¬ (st : Nat) = i := fun e => h (Fin.ext e.symm)
    simp [h, h']

@[simp] theorem setIncident_incident (s : State) (st : Fin 6) (x : Incident) (i : Fin 6) :
    (s.setIncident st x).incident i = if i = st then x else s.incident i := by
  simp only [setIncident, incident, withIncidents_incidents, Fin.getElem_fin, Vector.getElem_set]
  by_cases h : i = st
  · subst h; simp
  · have h' : ¬ (st : Nat) = i := fun e => h (Fin.ext e.symm)
    simp [h, h']

@[simp] theorem setFlag_flag (s : State) (st : Fin 6) (x : StationFlags) (i : Fin 6) :
    (s.setFlag st x).flag i = if i = st then x else s.flag i := by
  simp only [setFlag, flag, withFlags_flags, Fin.getElem_fin, Vector.getElem_set]
  by_cases h : i = st
  · subst h; simp
  · have h' : ¬ (st : Nat) = i := fun e => h (Fin.ext e.symm)
    simp [h, h']

@[simp] theorem setPosition_position (s : State) (p : Fin 12) (x : Position) (i : Fin 12) :
    (s.setPosition p x).position i = if i = p then x else s.position i := by
  simp only [setPosition, position, withPositions_positions, Fin.getElem_fin, Vector.getElem_set]
  by_cases h : i = p
  · subst h; simp
  · have h' : ¬ (p : Nat) = i := fun e => h (Fin.ext e.symm)
    simp [h, h']

/-! ### The journal -/

@[simp] theorem beginEvent_eq (s : State) : s.beginEvent = s.withJournal [] := rfl

@[simp] theorem commit_eq (s : State) (ws : List RetainedWrite) : s.commit ws = s.withJournal (ws :: s.journal) := rfl

end Sys2Proof.Machine.State
end

