-- ==== Sys2Proof/Laws/Tables.lean ====
section
/-! SUPPORT. The laws of the tables of records: read after write, and the canonical form that every table operation keeps. -/

namespace Sys2Proof.Machine

variable {α : Type}

/-- A read after a write: the number written holds the value, every other holds what it held. -/
theorem tableGet_tablePut (t : Table α) (n m : Nat) (v : α) :
    tableGet (tablePut t n v) m = if m = n then some v else tableGet t m := by
  induction t with
  | nil => simp [tablePut, tableGet, eq_comm]
  | cons e rest ih =>
    obtain ⟨k, w⟩ := e
    simp only [tablePut]
    split
    · simp only [tableGet, eq_comm]
    · split
      · subst_vars; simp only [tableGet, eq_comm (a := m)]; split <;> rfl
      · simp only [tableGet, ih]; by_cases h : k = m <;> simp [h]; omega

/-- A number that stands at or below the bound of a rising table is undefined. -/
theorem tableGet_none_of_le {t : Table α} {low : Nat} (h : tableRises low t = true) {n : Nat} (hn : n ≤ low) :
    tableGet t n = none := by
  induction t generalizing low with
  | nil => rfl
  | cons e rest ih =>
    obtain ⟨k, w⟩ := e
    simp only [tableRises, Bool.and_eq_true, decide_eq_true_eq] at h
    simp only [tableGet, show ¬ k = n by omega, if_false]
    exact ih h.2 (by omega)

/-- A read after an erasure of a rising table. -/
theorem tableGet_tableErase {t : Table α} {low : Nat} (h : tableRises low t = true) (n m : Nat) :
    tableGet (tableErase t n) m = if m = n then none else tableGet t m := by
  induction t generalizing low with
  | nil => simp [tableErase, tableGet]
  | cons e rest ih =>
    obtain ⟨k, w⟩ := e
    simp only [tableRises, Bool.and_eq_true, decide_eq_true_eq] at h
    simp only [tableErase]
    split
    · subst_vars
      by_cases hm : m = k
      · subst hm; simpa using tableGet_none_of_le h.2 (Nat.le_refl _)
      · simp [tableGet, hm, Ne.symm hm]
    · simp only [tableGet, ih h.2]; by_cases hk : k = m <;> simp [hk]; omega

/-- A read after every record has been changed. -/
theorem tableGet_tableMap (f : α → α) (t : Table α) (n : Nat) : tableGet (tableMap f t) n = (tableGet t n).map f := by
  induction t with
  | nil => rfl
  | cons e rest ih =>
    obtain ⟨k, w⟩ := e
    simp only [tableMap, tableGet, ih]; split <;> rfl

theorem tableRises_tablePut {t : Table α} {low n : Nat} (h : tableRises low t = true) (hn : low < n) (v : α) :
    tableRises low (tablePut t n v) = true := by
  induction t generalizing low with
  | nil => simp [tablePut, tableRises, hn]
  | cons e rest ih =>
    obtain ⟨k, w⟩ := e
    simp only [tableRises, Bool.and_eq_true, decide_eq_true_eq] at h
    simp only [tablePut]
    split
    · simp [tableRises, h.2, *]
    · split
      · subst_vars; simp [tableRises, hn, h.2]
      · simp only [tableRises, Bool.and_eq_true, decide_eq_true_eq]; exact ⟨h.1, ih h.2 (by omega)⟩

theorem tableRises_mono {t : Table α} {low low' : Nat} (h : tableRises low t = true) (hl : low' ≤ low) :
    tableRises low' t = true := by
  cases t with
  | nil => rfl
  | cons e rest =>
    simp only [tableRises, Bool.and_eq_true, decide_eq_true_eq] at h ⊢; exact ⟨by omega, h.2⟩

theorem tableRises_tableErase {t : Table α} {low : Nat} (h : tableRises low t = true) (n : Nat) :
    tableRises low (tableErase t n) = true := by
  induction t generalizing low with
  | nil => rfl
  | cons e rest ih =>
    obtain ⟨k, w⟩ := e
    simp only [tableRises, Bool.and_eq_true, decide_eq_true_eq] at h
    simp only [tableErase]
    split
    · exact tableRises_mono h.2 (by omega)
    · simp only [tableRises, Bool.and_eq_true, decide_eq_true_eq]; exact ⟨h.1, ih h.2⟩

theorem tableRises_tableMap (f : α → α) {t : Table α} {low : Nat} (h : tableRises low t = true) :
    tableRises low (tableMap f t) = true := by
  induction t generalizing low with
  | nil => rfl
  | cons e rest ih =>
    obtain ⟨k, w⟩ := e
    simp only [tableMap, tableRises, Bool.and_eq_true, decide_eq_true_eq] at h ⊢; exact ⟨h.1, ih h.2⟩

/-- Writing the record of a number above 0 keeps the canonical form. -/
theorem tableWf_tablePut {t : Table α} (h : tableWf t = true) {n : Nat} (hn : 0 < n) (v : α) :
    tableWf (tablePut t n v) = true := tableRises_tablePut h hn v

/-- Erasing keeps the canonical form. -/
theorem tableWf_tableErase {t : Table α} (h : tableWf t = true) (n : Nat) : tableWf (tableErase t n) = true :=
  tableRises_tableErase h n

/-- Changing every record keeps the canonical form. -/
theorem tableWf_tableMap {t : Table α} (h : tableWf t = true) (f : α → α) : tableWf (tableMap f t) = true :=
  tableRises_tableMap f h

/-- A defined number of a canonical table is above 0. -/
theorem pos_of_tableGet {t : Table α} (h : tableWf t = true) {n : Nat} {v : α} (hv : tableGet t n = some v) : 0 < n := by
  rcases Nat.eq_zero_or_pos n with rfl | hn
  · rw [tableGet_none_of_le h (Nat.le_refl 0)] at hv; cases hv
  · exact hn

/-- A listed pair of a canonical table is what a read of its number gives. -/
theorem tableGet_of_mem {t : Table α} {low : Nat} (h : tableRises low t = true) {n : Nat} {v : α} (hm : (n, v) ∈ t) :
    tableGet t n = some v := by
  induction t generalizing low with
  | nil => cases hm
  | cons e rest ih =>
    obtain ⟨k, w⟩ := e
    simp only [tableRises, Bool.and_eq_true, decide_eq_true_eq] at h
    rcases List.mem_cons.1 hm with he | hr
    · cases he; simp [tableGet]
    · have hg := ih h.2 hr
      have : k ≠ n := by
        rintro rfl; rw [tableGet_none_of_le h.2 (Nat.le_refl _)] at hg; cases hg
      simp [tableGet, this, hg]

/-- What a read gives is listed. -/
theorem mem_of_tableGet {t : Table α} {n : Nat} {v : α} (h : tableGet t n = some v) : (n, v) ∈ t := by
  induction t with
  | nil => cases h
  | cons e rest ih =>
    obtain ⟨k, w⟩ := e
    simp only [tableGet] at h
    split at h
    · cases h; subst_vars; simp
    · exact List.mem_cons_of_mem _ (ih h)

/-! ### One value for each station, position and class -/

@[simp] theorem perStation_get (f : Fin 6 → α) (i : Fin 6) : (perStation f)[(i : Nat)] = f i := by
  revert i; simp only [perStation]; intro i; fin_cases i <;> rfl

@[simp] theorem perPosition_get (f : Fin 12 → α) (i : Fin 12) : (perPosition f)[(i : Nat)] = f i := by
  revert i; simp only [perPosition]; intro i; fin_cases i <;> rfl

@[simp] theorem perClass_get (f : Fin 4 → α) (i : Fin 4) : (perClass f)[(i : Nat)] = f i := by
  revert i; simp only [perClass]; intro i; fin_cases i <;> rfl

/-! ### Tools and groups -/

namespace State

@[simp] theorem setTool_toolGet (s : State) (n : Nat) (x : Tool) (m : Nat) :
    (s.setTool n x).tool? m = if m = n then some x else s.tool? m := tableGet_tablePut _ _ _ _

@[simp] theorem setGroup_groupGet (s : State) (n : Nat) (x : Group) (m : Nat) :
    (s.setGroup n x).group? m = if m = n then some x else s.group? m := tableGet_tablePut _ _ _ _

theorem eraseTool_toolGet {s : State} (h : tableWf s.tools = true) (n m : Nat) :
    (s.eraseTool n).tool? m = if m = n then none else s.tool? m := tableGet_tableErase h _ _

theorem eraseGroup_groupGet {s : State} (h : tableWf s.groups = true) (n m : Nat) :
    (s.eraseGroup n).group? m = if m = n then none else s.group? m := tableGet_tableErase h _ _

/-- A change of one tool record: the record as changed where it is defined, every other as it was. -/
@[simp] theorem modifyTool_toolGet (s : State) (n : Nat) (f : Tool → Tool) (m : Nat) :
    (s.modifyTool n f).tool? m = if m = n then (s.tool? n).map f else s.tool? m := by
  unfold modifyTool
  split
  · simp [*]
  · by_cases h : m = n <;> simp [*]

/-- A change of one group record: the record as changed where it is defined, every other as it was. -/
@[simp] theorem modifyGroup_groupGet (s : State) (n : Nat) (f : Group → Group) (m : Nat) :
    (s.modifyGroup n f).group? m = if m = n then (s.group? n).map f else s.group? m := by
  unfold modifyGroup
  split
  · simp [*]
  · by_cases h : m = n <;> simp [*]

end State

end Sys2Proof.Machine
end

