-- ==== Sys2Proof/Laws/Worked.lean ====
section
/-! SUPPORT. What no work of a block changes, said once for each shared operation: the power, the clock, the configuration
records, the link port and the waiting commands stand, the notice queues only take notices, and the journal only grows. -/

namespace Sys2Proof.Machine

/-- Queues reached by notices joining them. -/
inductive NoticeQueues.Grown : NoticeQueues → NoticeQueues → Prop
  | refl (q : NoticeQueues) : Grown q q
  | push {q r : NoticeQueues} (h : Grown q r) (urgent : Bool) (n : Notice) : Grown q (r.push urgent n)

theorem NoticeQueues.Grown.trans {q r u : NoticeQueues} (h : Grown q r) (h' : Grown r u) : Grown q u := by
  induction h' with
  | refl => exact h
  | push _ b n ih => exact .push ih b n

/-- A state reached by the work of the blocks. -/
structure Worked (s t : State) : Prop where
  powered : t.powered = s.powered
  clock : t.clock = s.clock
  configs : t.configs = s.configs
  link : t.link = s.link
  pending : t.pending = s.pending
  notices : NoticeQueues.Grown s.notices t.notices
  journal : ∃ cs, t.journal = cs ++ s.journal

namespace Worked

theorem refl (s : State) : Worked s s := ⟨rfl, rfl, rfl, rfl, rfl, .refl _, [], rfl⟩

theorem trans {s t u : State} (h : Worked s t) (k : Worked t u) : Worked s u := by
  obtain ⟨cs, hc⟩ := h.journal
  obtain ⟨ds, hd⟩ := k.journal
  exact ⟨k.powered.trans h.powered, k.clock.trans h.clock, k.configs.trans h.configs, k.link.trans h.link,
    k.pending.trans h.pending, h.notices.trans k.notices, ds ++ cs, by rw [hd, hc, List.append_assoc]⟩

theorem ite {s t u : State} {c : Prop} [Decidable c] (h : Worked s t) (k : Worked s u) :
    Worked s (if c then t else u) := by
  split <;> assumption

variable (s : State)

theorem withTools (v : Table Tool) : Worked s (s.withTools v) := ⟨rfl, rfl, rfl, rfl, rfl, .refl _, [], rfl⟩
theorem withGroups (v : Table Group) : Worked s (s.withGroups v) := ⟨rfl, rfl, rfl, rfl, rfl, .refl _, [], rfl⟩
theorem withMonitors (v : Vector Monitor 6) : Worked s (s.withMonitors v) := ⟨rfl, rfl, rfl, rfl, rfl, .refl _, [], rfl⟩
theorem withCaptures (v : Vector Capture 6) : Worked s (s.withCaptures v) := ⟨rfl, rfl, rfl, rfl, rfl, .refl _, [], rfl⟩
theorem withIncidents (v : Vector Incident 6) : Worked s (s.withIncidents v) := ⟨rfl, rfl, rfl, rfl, rfl, .refl _, [], rfl⟩
theorem withFlags (v : Vector StationFlags 6) : Worked s (s.withFlags v) := ⟨rfl, rfl, rfl, rfl, rfl, .refl _, [], rfl⟩
theorem withPositions (v : Vector Position 12) : Worked s (s.withPositions v) := ⟨rfl, rfl, rfl, rfl, rfl, .refl _, [], rfl⟩
theorem setTool (n : Nat) (t : Tool) : Worked s (s.setTool n t) := withTools _ _
theorem eraseTool (n : Nat) : Worked s (s.eraseTool n) := withTools _ _
theorem setGroup (n : Nat) (g : Group) : Worked s (s.setGroup n g) := withGroups _ _
theorem eraseGroup (n : Nat) : Worked s (s.eraseGroup n) := withGroups _ _
theorem setMonitor (st : Fin 6) (m : Monitor) : Worked s (s.setMonitor st m) := withMonitors _ _
theorem setCapture (st : Fin 6) (c : Capture) : Worked s (s.setCapture st c) := withCaptures _ _
theorem setIncident (st : Fin 6) (i : Incident) : Worked s (s.setIncident st i) := withIncidents _ _
theorem setFlag (st : Fin 6) (f : StationFlags) : Worked s (s.setFlag st f) := withFlags _ _
theorem setPosition (p : Fin 12) (x : Position) : Worked s (s.setPosition p x) := withPositions _ _
theorem commit (ws : List RetainedWrite) : Worked s (s.commit ws) :=
  ⟨rfl, rfl, rfl, rfl, rfl, .refl _, [ws], rfl⟩
theorem notify (u : Bool) (k : NoticeKind) (st : Option (Fin 6)) (pk : Option Kind) (n a b : Nat) :
    Worked s (s.notify u k st pk n a b) := ⟨rfl, rfl, rfl, rfl, rfl, .push (.refl _) _ _, [], rfl⟩

theorem modifyTool (n : Nat) (f : Tool → Tool) : Worked s (s.modifyTool n f) := by
  unfold State.modifyTool; split
  · exact setTool ..
  · exact refl _

theorem modifyGroup (n : Nat) (f : Group → Group) : Worked s (s.modifyGroup n f) := by
  unfold State.modifyGroup; split
  · exact setGroup ..
  · exact refl _

theorem modifyMonitor (st : Fin 6) (f : Monitor → Monitor) : Worked s (s.modifyMonitor st f) := setMonitor ..

/-! ### The sister selector -/

theorem leaveWaiting (p : Fin 12) : Worked s (s.leaveWaiting p) := by
  unfold State.leaveWaiting; split
  · exact modifyGroup ..
  · exact refl _

theorem giveSister (p : Fin 12) (gno : Nat) (g : Group) (i : Nat) : Worked s (s.giveSister p gno g i) := by
  unfold State.giveSister
  exact ((((commit ..).trans (modifyTool ..)).trans (setGroup ..)).trans (setPosition ..)).trans (notify ..)

theorem rest (p : Fin 12) (x : PositionState) : Worked s (s.rest p x) := setPosition ..

theorem waitFor (p : Fin 12) (a : Nat) : Worked s (s.waitFor p a) := by
  unfold State.waitFor; exact (rest ..).trans (notify ..)

theorem exhausted (p : Fin 12) (n : Nat) (t : Tool) (g : Group) : Worked s (s.exhausted p n t g) := by
  unfold State.exhausted
  exact (modifyGroup ..).trans (ite
    (((ite (refl _) ((commit ..).trans (modifyTool ..))).trans (rest ..)).trans (notify ..)) (waitFor ..))

theorem selection (p : Fin 12) : Worked s (s.selection p) := by
  unfold State.selection
  dsimp only
  split
  · exact refl _
  · split
    · exact waitFor ..
    · split
      · exact giveSister ..
      · exact exhausted ..

theorem serviceLoop (gno fuel : Nat) : Worked s (s.serviceLoop gno fuel) := by
  induction fuel generalizing s with
  | zero => exact refl _
  | succ fuel ih =>
    unfold State.serviceLoop
    split
    · exact refl _
    · split
      · exact refl _
      · split
        · exact refl _
        · exact (giveSister ..).trans (ih _)

theorem eligibilityEvent (gno : Nat) : Worked s (s.eligibilityEvent gno) := by
  unfold State.eligibilityEvent; split
  · exact refl _
  · exact serviceLoop ..

theorem reportIfEligible (n : Nat) : Worked s (s.reportIfEligible n) := by
  unfold State.reportIfEligible; split
  · exact refl _
  · exact ite (eligibilityEvent ..) (refl _)

theorem rescan (p : Fin 12) : Worked s (s.rescan p) := by
  unfold State.rescan
  split
  · exact refl _
  · split
    · exact refl _
    · split
      · exact giveSister ..
      · exact ite (refl _) (waitFor ..)

/-! ### The swap controller -/

theorem backToServing (p : Fin 12) : Worked s (s.backToServing p) := (leaveWaiting ..).trans (rest ..)

theorem regained (p : Fin 12) : Worked s (s.regained p) := by
  unfold State.regained; split <;> first | exact backToServing .. | exact refl _

theorem conditionReport (p : Fin 12) (old new : Condition) : Worked s (s.conditionReport p old new) := by
  unfold State.conditionReport
  split
  · exact ite (rest ..) (refl _)
  · split <;> first | exact selection .. | exact refl _
  · exact refl _
  · exact refl _
  · exact ite (regained ..) (refl _)
  · exact ite (regained ..) (refl _)

theorem handOver (pl : Placement) (old new : Condition) : Worked s (s.handOver pl old new) := by
  unfold State.handOver; split <;> first | exact conditionReport .. | exact refl _

theorem partEndAt (p : Fin 12) : Worked s (s.partEndAt p) := by
  unfold State.partEndAt; split <;> first | exact selection .. | exact rescan .. | exact refl _

theorem partEnd (st : Fin 6) : Worked s (s.partEnd st) := (partEndAt ..).trans (partEndAt ..)

theorem resumeAt (p : Fin 12) : Worked s (s.resumeAt p) := ite (selection ..) (refl _)

theorem timerExpiry (p : Fin 12) : Worked s (s.timerExpiry p) := by
  unfold State.timerExpiry; exact ite ((setPosition ..).trans (notify ..)) (refl _)

theorem reportToolChange (p : Fin 12) : Worked s (s.reportToolChange p) := modifyMonitor ..

theorem clearAir (p : Fin 12) : Worked s (s.clearAir p) := by
  unfold State.clearAir; split <;> first | exact modifyMonitor .. | exact refl _

theorem releaseSister (p : Fin 12) : Worked s (s.releaseSister p) := (commit ..).trans (modifyTool ..)

/-! ### The life accounting unit -/

theorem crossingNotice (n : Nat) (old : Condition) (t : Tool) : Worked s (s.crossingNotice n old t) := by
  unfold State.crossingNotice
  exact ite (notify ..) (ite (ite (notify ..) (notify ..)) (refl _))

theorem recompute (n : Nat) : Worked s (s.recompute n) := by
  unfold State.recompute; split
  · exact refl _
  · exact ite (refl _) (((setTool ..).trans (crossingNotice ..)).trans (handOver ..))

theorem reportIfBecame (n : Nat) (b : Bool) : Worked s (s.reportIfBecame n b) := ite (refl _) (reportIfEligible ..)

theorem charge (n w : Nat) : Worked s (s.charge n w) := (modifyTool ..).trans (recompute ..)

theorem breakTool (n : Nat) : Worked s (s.breakTool n) := by
  unfold State.breakTool; split
  · exact refl _
  · exact ite (refl _) ((setTool ..).trans (handOver ..))

theorem wheelShare (n d : Nat) : Worked s (s.wheelShare n d) := ((commit ..).trans (modifyTool ..)).trans (recompute ..)

theorem dresserShare (n w : Nat) : Worked s (s.dresserShare n w) := ((commit ..).trans (modifyTool ..)).trans (recompute ..)

theorem dressEnd (l : Latched) : Worked s (s.dressEnd l) := (ite (wheelShare ..) (refl _)).trans (dresserShare ..)

/-! ### The incident and hold unit -/

theorem openIncident (d : Detection) (r : Response) : Worked s (s.openIncident d r) :=
  ((setIncident ..).trans (notify ..)).trans (setCapture ..)

theorem respond (d : Detection) : Worked s (s.respond d) := by
  unfold State.respond; split
  · exact refl _
  · exact notify ..
  · exact openIncident ..
  · exact (openIncident ..).trans (breakTool ..)

theorem takeDetection (d : Detection) : Worked s (s.takeDetection d) :=
  (modifyTool ..).trans (ite (setIncident ..) (respond ..))

theorem closeIncident (st : Fin 6) : Worked s (s.closeIncident st) := (setIncident ..).trans (setCapture ..)

/-! ### The pass end -/

theorem learnStep (st : Fin 6) (e : PassEnd) (t : Tool) : Worked s (s.learnStep st e t) :=
  (setTool ..).trans (ite (notify ..) (refl _))

theorem smoothStep (e : PassEnd) (t : Tool) : Worked s (s.smoothStep e t) := setTool ..

theorem moveReference (st : Fin 6) (e : PassEnd) (t : Tool) : Worked s (s.moveReference st e t) := by
  unfold State.moveReference
  refine ite (refl _) ?_
  split <;> first | exact learnStep .. | exact smoothStep .. | exact refl _

theorem stepAir (st : Fin 6) (o : PassOutcome) : Worked s (s.stepAir st o) := modifyMonitor ..

theorem raiseAtPassEnd (st : Fin 6) (e : PassEnd) (f : Option (DetClass × Nat)) : Worked s (s.raiseAtPassEnd st e f) := by
  unfold State.raiseAtPassEnd; split
  · exact takeDetection ..
  · exact refl _

theorem chargePass (n : Nat) (w : Option Nat) : Worked s (s.chargePass n w) := by
  unfold State.chargePass; split
  · exact charge ..
  · exact refl _

theorem passEnd (st : Fin 6) (e : PassEnd) : Worked s (s.passEnd st e) := by
  unfold State.passEnd; split
  · exact refl _
  · exact ((((commit ..).trans (moveReference ..)).trans (stepAir ..)).trans (raiseAtPassEnd ..)).trans (chargePass ..)

/-! ### The station monitor -/

theorem monitorTo (st : Fin 6) (x : MonitorState) : Worked s (s.monitorTo st x) := modifyMonitor ..

theorem endProcessing (st : Fin 6) : Worked s (s.endProcessing st) := by
  unfold State.endProcessing
  dsimp only
  split
  · exact refl _
  · refine ite ?_ (refl _)
    split
    · exact passEnd ..
    · exact dressEnd ..

theorem finish (st : Fin 6) (x : MonitorState) : Worked s (s.finish st x) := (monitorTo ..).trans (endProcessing ..)

theorem signalConflict (st : Fin 6) (k : Option OpKind) : Worked s (s.signalConflict st k) := by
  unfold State.signalConflict
  refine (monitorTo s st .conflict).trans ?_
  dsimp only
  split <;> exact notify ..

theorem takeFalls (st : Fin 6) (e : Edges) : Worked s (s.takeFalls st e) := by
  unfold State.takeFalls; split <;> first | exact ite (finish ..) (refl _) | exact refl _

theorem takePartEnd (st : Fin 6) (e : Edges) : Worked s (s.takePartEnd st e) := by
  unfold State.takePartEnd
  refine ite ?_ (refl _)
  split
  · exact (finish s st .settling).trans (partEnd _ st)
  · exact (finish s st .settling).trans (partEnd _ st)
  · exact partEnd s st
  · exact partEnd s st
  · exact partEnd s st
  · exact refl s

theorem bothLowTest (st : Fin 6) : Worked s (s.bothLowTest st) := ite (monitorTo ..) (refl _)

theorem startPass (st : Fin 6) : Worked s (s.startPass st) := modifyMonitor ..
theorem startDress (st : Fin 6) : Worked s (s.startDress st) := modifyMonitor ..

theorem takeRises (st : Fin 6) (e : Edges) : Worked s (s.takeRises st e) := by
  unfold State.takeRises
  split
  · split <;> first | exact signalConflict .. | exact startPass .. | exact startDress .. | exact refl _
  all_goals first | exact ite (signalConflict ..) (refl _) | exact refl _

theorem takeBurst (st : Fin 6) : Worked s (s.takeBurst st) := by
  unfold State.takeBurst
  dsimp only
  split
  · exact refl _
  · exact ((setMonitor ..).trans (commit ..)).trans (takeDetection ..)

theorem takeChannelFault (st : Fin 6) (c : Channel) : Worked s (s.takeChannelFault st c) := by
  unfold State.takeChannelFault
  dsimp only
  split
  · exact refl _
  · split
    · exact ((setMonitor ..).trans (setFlag ..)).trans (notify ..)
    · exact (setMonitor ..).trans (notify ..)

theorem channelFaultLatch (st : Fin 6) (c : Channel) : Worked s (s.channelFaultLatch st c) := by
  unfold State.channelFaultLatch
  exact ite (takeChannelFault ..) (refl _)

theorem captureWrite (st : Fin 6) (x : Code × Code) : Worked s (s.captureWrite st x) := setCapture ..

theorem burstStage (st : Fin 6) (l : Latched) (ae : Code) : Worked s (s.burstStage st l ae) :=
  (modifyMonitor ..).trans (takeBurst ..)

theorem stuckStage (st : Fin 6) (p ae : Code) : Worked s (s.stuckStage st p ae) :=
  ((modifyMonitor ..).trans (takeChannelFault ..)).trans ((modifyMonitor ..).trans (takeChannelFault ..))

theorem operationWork (st : Fin 6) (l : Latched) (p ae : Code) : Worked s (s.operationWork st l p ae) := by
  unfold State.operationWork
  dsimp only
  refine Worked.trans ?_ (ite (modifyMonitor ..) (refl _))
  refine Worked.trans ?_ (ite (stuckStage ..) (refl _))
  refine Worked.trans ?_ (ite (modifyMonitor ..) (refl _))
  refine Worked.trans ?_ (ite (burstStage ..) (refl _))
  exact (captureWrite ..).trans (modifyMonitor ..)

theorem sampleWork (st : Fin 6) (p ae : Code) : Worked s (s.sampleWork st p ae) := by
  unfold State.sampleWork
  split
  · exact refl _
  · exact captureWrite ..
  · exact captureWrite ..
  · exact captureWrite ..
  all_goals split <;> first | exact operationWork .. | exact captureWrite ..

theorem takeSample (st : Fin 6) (p ae : Code) (raw : Lines) : Worked s (s.takeSample st p ae raw) := by
  unfold State.takeSample
  exact ite (refl _) ((((((modifyMonitor ..).trans (takeFalls ..)).trans (takePartEnd ..)).trans (bothLowTest ..)).trans
    (takeRises ..)).trans (sampleWork ..))

/-! ### The requests that move tools -/

theorem place (n : Nat) (x : Placement) : Worked s (s.place n x) := modifyTool ..

theorem takeMount (p : Fin 12) (n : Nat) : Worked s (s.takeMount p n) :=
  ((((commit ..).trans (place ..)).trans (setPosition ..)).trans (reportToolChange ..)).trans (clearAir ..)

theorem takeDismount (p : Fin 12) : Worked s (s.takeDismount p) :=
  (((((leaveWaiting ..).trans (commit ..)).trans (place ..)).trans (setPosition ..)).trans (reportToolChange ..)).trans
    (reportIfEligible ..)

theorem exchange (p : Fin 12) (u : Nat) : Worked s (s.exchange p u) :=
  (((((((commit ..).trans (place ..)).trans (place ..)).trans (place ..)).trans (setPosition ..)).trans
    (reportToolChange ..)).trans (clearAir ..)).trans (notify ..)

theorem confirmSister (p : Fin 12) : Worked s (s.confirmSister p) :=
  ((exchange ..).trans (ite (selection ..) (refl _))).trans (reportIfEligible ..)

theorem confirmSubstitute (p : Fin 12) (u : Nat) : Worked s (s.confirmSubstitute p u) :=
  ((exchange ..).trans (reportIfEligible ..)).trans (reportIfEligible ..)

theorem takeCancel (p : Fin 12) : Worked s (s.takeCancel p) :=
  (((commit ..).trans (place ..)).trans (setPosition ..)).trans (reportIfEligible ..)

theorem condemnByVerdict (i : Incident) (b : Bool) : Worked s (s.condemnByVerdict i b) :=
  ite ((commit ..).trans (breakTool ..)) (refl _)

theorem adjustRecord (n : Nat) (t u : Tool) : Worked s (s.adjustRecord n t u) :=
  (((commit ..).trans (setTool ..)).trans (recompute ..)).trans (reportIfBecame ..)

theorem setGroupField (v : Nat) (ns : List Nat) : Worked s (s.setGroupField v ns) := by
  induction ns generalizing s with
  | nil => exact refl _
  | cons n rest ih => exact (modifyTool s n _).trans (ih _)

theorem writeGroup (n : Nat) (g : Group) : Worked s (s.writeGroup n g) :=
  ((((commit ..).trans (setGroup ..)).trans (setGroupField ..)).trans (setGroupField ..)).trans
    (ite (eligibilityEvent ..) (refl _))

theorem resetMonitor (st : Fin 6) (b : Bool) : Worked s (s.resetMonitor st b) := (setMonitor ..).trans (setCapture ..)

theorem takeStationReset (st : Fin 6) : Worked s (s.takeStationReset st) := by
  unfold State.takeStationReset State.leaveAll State.releaseAt
  dsimp only
  refine Worked.trans ?_ (ite (refl _) (reportIfEligible ..))
  refine Worked.trans ?_ (ite (refl _) (reportIfEligible ..))
  refine Worked.trans ?_ (setPosition ..)
  refine Worked.trans ?_ (setPosition ..)
  refine Worked.trans ?_ (ite (refl _) (releaseSister ..))
  refine Worked.trans ?_ (ite (refl _) (releaseSister ..))
  exact ((((resetMonitor ..).trans (setIncident ..)).trans (setFlag ..)).trans (withGroups ..)).trans (withGroups ..)

end Worked

/-! ### What follows for the queues -/

/-- Notices joining queues within their bounds leave them within their bounds. -/
theorem NoticeQueues.Grown.lengths {q r : NoticeQueues} (h : Grown q r) (hu : q.urgent.length ≤ 16)
    (hr : q.routine.length ≤ 48) : r.urgent.length ≤ 16 ∧ r.routine.length ≤ 48 := by
  induction h with
  | refl => exact ⟨hu, hr⟩
  | push _ b n ih =>
    unfold NoticeQueues.push urgentCapacity routineCapacity
    split <;> split <;> simp <;> omega

/-- Notices joining queues move neither the enables, nor the level, nor the count. -/
theorem NoticeQueues.Grown.settings {q r : NoticeQueues} (h : Grown q r) :
    r.count = q.count ∧ r.urgentEnable = q.urgentEnable ∧ r.routineEnable = q.routineEnable ∧ r.level = q.level := by
  induction h with
  | refl => exact ⟨rfl, rfl, rfl, rfl⟩
  | push _ b n ih =>
    unfold NoticeQueues.push
    split <;> split <;> exact ih

end Sys2Proof.Machine
end

