-- ==== Sys2Proof/Laws/Writes.lean ====
section
/-! SUPPORT. What a change of one record and a notice leave as they were. -/

namespace Sys2Proof.Machine.State

/-! ### modifyTool -/

@[simp] theorem modifyTool_powered (s : State) (n : Nat) (f : Tool → Tool) : (s.modifyTool n f).powered = s.powered := by
  unfold modifyTool; split <;> rfl
@[simp] theorem modifyTool_clock (s : State) (n : Nat) (f : Tool → Tool) : (s.modifyTool n f).clock = s.clock := by
  unfold modifyTool; split <;> rfl
@[simp] theorem modifyTool_groups (s : State) (n : Nat) (f : Tool → Tool) : (s.modifyTool n f).groups = s.groups := by
  unfold modifyTool; split <;> rfl
@[simp] theorem modifyTool_configs (s : State) (n : Nat) (f : Tool → Tool) : (s.modifyTool n f).configs = s.configs := by
  unfold modifyTool; split <;> rfl
@[simp] theorem modifyTool_monitors (s : State) (n : Nat) (f : Tool → Tool) : (s.modifyTool n f).monitors = s.monitors := by
  unfold modifyTool; split <;> rfl
@[simp] theorem modifyTool_captures (s : State) (n : Nat) (f : Tool → Tool) : (s.modifyTool n f).captures = s.captures := by
  unfold modifyTool; split <;> rfl
@[simp] theorem modifyTool_incidents (s : State) (n : Nat) (f : Tool → Tool) : (s.modifyTool n f).incidents = s.incidents := by
  unfold modifyTool; split <;> rfl
@[simp] theorem modifyTool_flags (s : State) (n : Nat) (f : Tool → Tool) : (s.modifyTool n f).flags = s.flags := by
  unfold modifyTool; split <;> rfl
@[simp] theorem modifyTool_positions (s : State) (n : Nat) (f : Tool → Tool) : (s.modifyTool n f).positions = s.positions := by
  unfold modifyTool; split <;> rfl
@[simp] theorem modifyTool_notices (s : State) (n : Nat) (f : Tool → Tool) : (s.modifyTool n f).notices = s.notices := by
  unfold modifyTool; split <;> rfl
@[simp] theorem modifyTool_link (s : State) (n : Nat) (f : Tool → Tool) : (s.modifyTool n f).link = s.link := by
  unfold modifyTool; split <;> rfl
@[simp] theorem modifyTool_journal (s : State) (n : Nat) (f : Tool → Tool) : (s.modifyTool n f).journal = s.journal := by
  unfold modifyTool; split <;> rfl
@[simp] theorem modifyTool_pending (s : State) (n : Nat) (f : Tool → Tool) : (s.modifyTool n f).pending = s.pending := by
  unfold modifyTool; split <;> rfl
@[simp] theorem modifyTool_groupGet (s : State) (n : Nat) (f : Tool → Tool) (m : Nat) : (s.modifyTool n f).group? m = s.group? m := by
  unfold modifyTool; split <;> rfl
@[simp] theorem modifyTool_config (s : State) (n : Nat) (f : Tool → Tool) (i : Fin 6) : (s.modifyTool n f).config i = s.config i := by
  unfold modifyTool; split <;> rfl
@[simp] theorem modifyTool_monitor (s : State) (n : Nat) (f : Tool → Tool) (i : Fin 6) : (s.modifyTool n f).monitor i = s.monitor i := by
  unfold modifyTool; split <;> rfl
@[simp] theorem modifyTool_capture (s : State) (n : Nat) (f : Tool → Tool) (i : Fin 6) : (s.modifyTool n f).capture i = s.capture i := by
  unfold modifyTool; split <;> rfl
@[simp] theorem modifyTool_incident (s : State) (n : Nat) (f : Tool → Tool) (i : Fin 6) : (s.modifyTool n f).incident i = s.incident i := by
  unfold modifyTool; split <;> rfl
@[simp] theorem modifyTool_flag (s : State) (n : Nat) (f : Tool → Tool) (i : Fin 6) : (s.modifyTool n f).flag i = s.flag i := by
  unfold modifyTool; split <;> rfl
@[simp] theorem modifyTool_position (s : State) (n : Nat) (f : Tool → Tool) (q : Fin 12) : (s.modifyTool n f).position q = s.position q := by
  unfold modifyTool; split <;> rfl

/-! ### modifyGroup -/

@[simp] theorem modifyGroup_powered (s : State) (n : Nat) (f : Group → Group) : (s.modifyGroup n f).powered = s.powered := by
  unfold modifyGroup; split <;> rfl
@[simp] theorem modifyGroup_clock (s : State) (n : Nat) (f : Group → Group) : (s.modifyGroup n f).clock = s.clock := by
  unfold modifyGroup; split <;> rfl
@[simp] theorem modifyGroup_tools (s : State) (n : Nat) (f : Group → Group) : (s.modifyGroup n f).tools = s.tools := by
  unfold modifyGroup; split <;> rfl
@[simp] theorem modifyGroup_configs (s : State) (n : Nat) (f : Group → Group) : (s.modifyGroup n f).configs = s.configs := by
  unfold modifyGroup; split <;> rfl
@[simp] theorem modifyGroup_monitors (s : State) (n : Nat) (f : Group → Group) : (s.modifyGroup n f).monitors = s.monitors := by
  unfold modifyGroup; split <;> rfl
@[simp] theorem modifyGroup_captures (s : State) (n : Nat) (f : Group → Group) : (s.modifyGroup n f).captures = s.captures := by
  unfold modifyGroup; split <;> rfl
@[simp] theorem modifyGroup_incidents (s : State) (n : Nat) (f : Group → Group) : (s.modifyGroup n f).incidents = s.incidents := by
  unfold modifyGroup; split <;> rfl
@[simp] theorem modifyGroup_flags (s : State) (n : Nat) (f : Group → Group) : (s.modifyGroup n f).flags = s.flags := by
  unfold modifyGroup; split <;> rfl
@[simp] theorem modifyGroup_positions (s : State) (n : Nat) (f : Group → Group) : (s.modifyGroup n f).positions = s.positions := by
  unfold modifyGroup; split <;> rfl
@[simp] theorem modifyGroup_notices (s : State) (n : Nat) (f : Group → Group) : (s.modifyGroup n f).notices = s.notices := by
  unfold modifyGroup; split <;> rfl
@[simp] theorem modifyGroup_link (s : State) (n : Nat) (f : Group → Group) : (s.modifyGroup n f).link = s.link := by
  unfold modifyGroup; split <;> rfl
@[simp] theorem modifyGroup_journal (s : State) (n : Nat) (f : Group → Group) : (s.modifyGroup n f).journal = s.journal := by
  unfold modifyGroup; split <;> rfl
@[simp] theorem modifyGroup_pending (s : State) (n : Nat) (f : Group → Group) : (s.modifyGroup n f).pending = s.pending := by
  unfold modifyGroup; split <;> rfl
@[simp] theorem modifyGroup_toolGet (s : State) (n : Nat) (f : Group → Group) (m : Nat) : (s.modifyGroup n f).tool? m = s.tool? m := by
  unfold modifyGroup; split <;> rfl
@[simp] theorem modifyGroup_config (s : State) (n : Nat) (f : Group → Group) (i : Fin 6) : (s.modifyGroup n f).config i = s.config i := by
  unfold modifyGroup; split <;> rfl
@[simp] theorem modifyGroup_monitor (s : State) (n : Nat) (f : Group → Group) (i : Fin 6) : (s.modifyGroup n f).monitor i = s.monitor i := by
  unfold modifyGroup; split <;> rfl
@[simp] theorem modifyGroup_capture (s : State) (n : Nat) (f : Group → Group) (i : Fin 6) : (s.modifyGroup n f).capture i = s.capture i := by
  unfold modifyGroup; split <;> rfl
@[simp] theorem modifyGroup_incident (s : State) (n : Nat) (f : Group → Group) (i : Fin 6) : (s.modifyGroup n f).incident i = s.incident i := by
  unfold modifyGroup; split <;> rfl
@[simp] theorem modifyGroup_flag (s : State) (n : Nat) (f : Group → Group) (i : Fin 6) : (s.modifyGroup n f).flag i = s.flag i := by
  unfold modifyGroup; split <;> rfl
@[simp] theorem modifyGroup_position (s : State) (n : Nat) (f : Group → Group) (q : Fin 12) : (s.modifyGroup n f).position q = s.position q := by
  unfold modifyGroup; split <;> rfl

/-! ### modifyMonitor -/

@[simp] theorem modifyMonitor_powered (s : State) (st : Fin 6) (f : Monitor → Monitor) : (s.modifyMonitor st f).powered = s.powered := rfl
@[simp] theorem modifyMonitor_clock (s : State) (st : Fin 6) (f : Monitor → Monitor) : (s.modifyMonitor st f).clock = s.clock := rfl
@[simp] theorem modifyMonitor_tools (s : State) (st : Fin 6) (f : Monitor → Monitor) : (s.modifyMonitor st f).tools = s.tools := rfl
@[simp] theorem modifyMonitor_groups (s : State) (st : Fin 6) (f : Monitor → Monitor) : (s.modifyMonitor st f).groups = s.groups := rfl
@[simp] theorem modifyMonitor_configs (s : State) (st : Fin 6) (f : Monitor → Monitor) : (s.modifyMonitor st f).configs = s.configs := rfl
@[simp] theorem modifyMonitor_captures (s : State) (st : Fin 6) (f : Monitor → Monitor) : (s.modifyMonitor st f).captures = s.captures := rfl
@[simp] theorem modifyMonitor_incidents (s : State) (st : Fin 6) (f : Monitor → Monitor) : (s.modifyMonitor st f).incidents = s.incidents := rfl
@[simp] theorem modifyMonitor_flags (s : State) (st : Fin 6) (f : Monitor → Monitor) : (s.modifyMonitor st f).flags = s.flags := rfl
@[simp] theorem modifyMonitor_positions (s : State) (st : Fin 6) (f : Monitor → Monitor) : (s.modifyMonitor st f).positions = s.positions := rfl
@[simp] theorem modifyMonitor_notices (s : State) (st : Fin 6) (f : Monitor → Monitor) : (s.modifyMonitor st f).notices = s.notices := rfl
@[simp] theorem modifyMonitor_link (s : State) (st : Fin 6) (f : Monitor → Monitor) : (s.modifyMonitor st f).link = s.link := rfl
@[simp] theorem modifyMonitor_journal (s : State) (st : Fin 6) (f : Monitor → Monitor) : (s.modifyMonitor st f).journal = s.journal := rfl
@[simp] theorem modifyMonitor_pending (s : State) (st : Fin 6) (f : Monitor → Monitor) : (s.modifyMonitor st f).pending = s.pending := rfl
@[simp] theorem modifyMonitor_toolGet (s : State) (st : Fin 6) (f : Monitor → Monitor) (m : Nat) : (s.modifyMonitor st f).tool? m = s.tool? m := rfl
@[simp] theorem modifyMonitor_groupGet (s : State) (st : Fin 6) (f : Monitor → Monitor) (m : Nat) : (s.modifyMonitor st f).group? m = s.group? m := rfl
@[simp] theorem modifyMonitor_config (s : State) (st : Fin 6) (f : Monitor → Monitor) (i : Fin 6) : (s.modifyMonitor st f).config i = s.config i := rfl
@[simp] theorem modifyMonitor_capture (s : State) (st : Fin 6) (f : Monitor → Monitor) (i : Fin 6) : (s.modifyMonitor st f).capture i = s.capture i := rfl
@[simp] theorem modifyMonitor_incident (s : State) (st : Fin 6) (f : Monitor → Monitor) (i : Fin 6) : (s.modifyMonitor st f).incident i = s.incident i := rfl
@[simp] theorem modifyMonitor_flag (s : State) (st : Fin 6) (f : Monitor → Monitor) (i : Fin 6) : (s.modifyMonitor st f).flag i = s.flag i := rfl
@[simp] theorem modifyMonitor_position (s : State) (st : Fin 6) (f : Monitor → Monitor) (q : Fin 12) : (s.modifyMonitor st f).position q = s.position q := rfl

/-! ### notify -/

@[simp] theorem notify_powered (s : State) (u : Bool) (k : NoticeKind) (st : Option (Fin 6)) (pk : Option Kind) (n x y : Nat) : (s.notify u k st pk n x y).powered = s.powered := rfl
@[simp] theorem notify_clock (s : State) (u : Bool) (k : NoticeKind) (st : Option (Fin 6)) (pk : Option Kind) (n x y : Nat) : (s.notify u k st pk n x y).clock = s.clock := rfl
@[simp] theorem notify_tools (s : State) (u : Bool) (k : NoticeKind) (st : Option (Fin 6)) (pk : Option Kind) (n x y : Nat) : (s.notify u k st pk n x y).tools = s.tools := rfl
@[simp] theorem notify_groups (s : State) (u : Bool) (k : NoticeKind) (st : Option (Fin 6)) (pk : Option Kind) (n x y : Nat) : (s.notify u k st pk n x y).groups = s.groups := rfl
@[simp] theorem notify_configs (s : State) (u : Bool) (k : NoticeKind) (st : Option (Fin 6)) (pk : Option Kind) (n x y : Nat) : (s.notify u k st pk n x y).configs = s.configs := rfl
@[simp] theorem notify_monitors (s : State) (u : Bool) (k : NoticeKind) (st : Option (Fin 6)) (pk : Option Kind) (n x y : Nat) : (s.notify u k st pk n x y).monitors = s.monitors := rfl
@[simp] theorem notify_captures (s : State) (u : Bool) (k : NoticeKind) (st : Option (Fin 6)) (pk : Option Kind) (n x y : Nat) : (s.notify u k st pk n x y).captures = s.captures := rfl
@[simp] theorem notify_incidents (s : State) (u : Bool) (k : NoticeKind) (st : Option (Fin 6)) (pk : Option Kind) (n x y : Nat) : (s.notify u k st pk n x y).incidents = s.incidents := rfl
@[simp] theorem notify_flags (s : State) (u : Bool) (k : NoticeKind) (st : Option (Fin 6)) (pk : Option Kind) (n x y : Nat) : (s.notify u k st pk n x y).flags = s.flags := rfl
@[simp] theorem notify_positions (s : State) (u : Bool) (k : NoticeKind) (st : Option (Fin 6)) (pk : Option Kind) (n x y : Nat) : (s.notify u k st pk n x y).positions = s.positions := rfl
@[simp] theorem notify_link (s : State) (u : Bool) (k : NoticeKind) (st : Option (Fin 6)) (pk : Option Kind) (n x y : Nat) : (s.notify u k st pk n x y).link = s.link := rfl
@[simp] theorem notify_journal (s : State) (u : Bool) (k : NoticeKind) (st : Option (Fin 6)) (pk : Option Kind) (n x y : Nat) : (s.notify u k st pk n x y).journal = s.journal := rfl
@[simp] theorem notify_pending (s : State) (u : Bool) (k : NoticeKind) (st : Option (Fin 6)) (pk : Option Kind) (n x y : Nat) : (s.notify u k st pk n x y).pending = s.pending := rfl
@[simp] theorem notify_toolGet (s : State) (u : Bool) (k : NoticeKind) (st : Option (Fin 6)) (pk : Option Kind) (n x y : Nat) (m : Nat) : (s.notify u k st pk n x y).tool? m = s.tool? m := rfl
@[simp] theorem notify_groupGet (s : State) (u : Bool) (k : NoticeKind) (st : Option (Fin 6)) (pk : Option Kind) (n x y : Nat) (m : Nat) : (s.notify u k st pk n x y).group? m = s.group? m := rfl
@[simp] theorem notify_config (s : State) (u : Bool) (k : NoticeKind) (st : Option (Fin 6)) (pk : Option Kind) (n x y : Nat) (i : Fin 6) : (s.notify u k st pk n x y).config i = s.config i := rfl
@[simp] theorem notify_monitor (s : State) (u : Bool) (k : NoticeKind) (st : Option (Fin 6)) (pk : Option Kind) (n x y : Nat) (i : Fin 6) : (s.notify u k st pk n x y).monitor i = s.monitor i := rfl
@[simp] theorem notify_capture (s : State) (u : Bool) (k : NoticeKind) (st : Option (Fin 6)) (pk : Option Kind) (n x y : Nat) (i : Fin 6) : (s.notify u k st pk n x y).capture i = s.capture i := rfl
@[simp] theorem notify_incident (s : State) (u : Bool) (k : NoticeKind) (st : Option (Fin 6)) (pk : Option Kind) (n x y : Nat) (i : Fin 6) : (s.notify u k st pk n x y).incident i = s.incident i := rfl
@[simp] theorem notify_flag (s : State) (u : Bool) (k : NoticeKind) (st : Option (Fin 6)) (pk : Option Kind) (n x y : Nat) (i : Fin 6) : (s.notify u k st pk n x y).flag i = s.flag i := rfl
@[simp] theorem notify_position (s : State) (u : Bool) (k : NoticeKind) (st : Option (Fin 6)) (pk : Option Kind) (n x y : Nat) (q : Fin 12) : (s.notify u k st pk n x y).position q = s.position q := rfl

@[simp] theorem modifyMonitor_monitor (s : State) (st : Fin 6) (f : Monitor → Monitor) (i : Fin 6) :
    (s.modifyMonitor st f).monitor i = if i = st then f (s.monitor st) else s.monitor i := setMonitor_monitor ..

end Sys2Proof.Machine.State
end

