-- ==== Sys2Proof/Laws/Cases.lean ====
section
/-! SUPPORT. What each shared operation can do, said once as its cases, and what the reads show after a reservation. -/

namespace Sys2Proof.Machine

namespace State

variable (s : State)

/-! ### Requests and events -/

/-- A part with power serves the request. -/
theorem request_of_powered {s : State} (h : s.powered = true) (work : State → Answer) : s.request work = s.serve work := by
  simp [request, h]

/-- A part without power takes no request. -/
theorem request_of_unpowered {s : State} (h : s.powered = false) (work : State → Answer) : s.request work = s := by
  simp [request, h]

/-- A part with power takes the event, with an empty journal. -/
theorem event_of_powered {s : State} (h : s.powered = true) (f : State → State) : s.event f = f (s.withJournal []) := by
  simp [event, h]

/-- A part without power takes no event. -/
theorem event_of_unpowered {s : State} (h : s.powered = false) (f : State → State) : s.event f = s := by
  simp [event, h]

/-- A request whose work refuses it changes the port and the journal alone. -/
theorem serve_refuse {work : State → Answer} {r : ResultCode}
    (h : work (s.beginEvent.withLink s.link.executing) = (s.beginEvent.withLink s.link.executing).refuse r) :
    s.serve work = (s.withJournal []).withLink (s.link.sending ⟨s.summaryByte, r, []⟩) := by
  unfold serve
  dsimp only
  rw [h]
  rfl

/-! ### The scan and the reservation -/

/-- A scan that chooses an index chooses that of an eligible member. -/
theorem scan_some {s : State} {g : Group} {i : Nat} (h : s.scan g = some i) :
    s.eligibleAt g i = true ∧ i ∈ g.scanOrder := by
  unfold scan at h
  exact ⟨List.find?_some h, List.mem_of_find?_eq_some h⟩

/-- An exhausted group has no eligible member on its scan's way. -/
theorem scan_none {s : State} {g : Group} (h : s.scan g = none) : ∀ i ∈ g.scanOrder, s.eligibleAt g i = false := by
  intro i hi
  simpa using List.find?_eq_none.1 h i hi

/-- An eligible member is a defined tool in STORE, SOUND or WARNED, with the margin left. -/
theorem eligibleAt_iff {s : State} {g : Group} {i : Nat} :
    s.eligibleAt g i = true ↔ ∃ n t, g.chain[i]? = some n ∧ s.tool? n = some t ∧ t.eligible g.margin = true := by
  unfold eligibleAt
  split
  · split <;> simp [*]
  · simp [*]

@[simp] theorem giveSister_toolGet (p : Fin 12) (gno : Nat) (g : Group) (i m : Nat) :
    (s.giveSister p gno g i).tool? m =
      if m = g.memberAt i then (s.tool? m).map fun t => { t with placement := .reserved p } else s.tool? m := by
  simp only [giveSister, notify, withNotices_toolGet, setPosition_toolGet, setGroup_toolGet, modifyTool_toolGet, commit_eq,
    withJournal_toolGet]
  split <;> simp [*]

@[simp] theorem giveSister_groupGet (p : Fin 12) (gno : Nat) (g : Group) (i m : Nat) :
    (s.giveSister p gno g i).group? m = if m = gno then some (g.chosen i p) else s.group? m := by
  have h : ∀ u : State, ∀ n f, (u.modifyTool n f).group? m = u.group? m := by
    intro u n f; unfold modifyTool; split <;> rfl
  simp only [giveSister, notify, withNotices_groupGet, setPosition_groupGet, setGroup_groupGet, h, commit_eq,
    withJournal_groupGet]

@[simp] theorem giveSister_position (p : Fin 12) (gno : Nat) (g : Group) (i : Nat) (q : Fin 12) :
    (s.giveSister p gno g i).position q =
      if q = p then ⟨.ordered, (s.position p).active, g.memberAt i, (s.config (stationOf p)).swapTimeout * 1000⟩
      else s.position q := by
  have h : ∀ u : State, ∀ n f q, (u.modifyTool n f).position q = u.position q := by
    intro u n f q; unfold modifyTool; split <;> rfl
  have hc : ∀ u : State, ∀ n f q, (u.modifyTool n f).config q = u.config q := by
    intro u n f q; unfold modifyTool; split <;> rfl
  simp only [giveSister, notify, withNotices_position, setPosition_position, setGroup_position, h, hc, commit_eq,
    withJournal_position, setGroup_config, withJournal_config]

/-- What a selection can do: nothing without a tool, a wait for an ungrouped one, a reservation, or the exhausted case
(R128). -/
theorem selection_cases (p : Fin 12) :
    (s.tool? (s.position p).active = none ∧ s.selection p = s) ∨
    ∃ t, s.tool? (s.position p).active = some t ∧
      ((s.groupOf t = none ∧ s.selection p = s.waitFor p 0) ∨
      ∃ g, s.groupOf t = some g ∧
        ((∃ i, s.scan g = some i ∧ s.selection p = s.giveSister p t.group g i) ∨
        (s.scan g = none ∧ s.selection p = s.exhausted p (s.position p).active t g))) := by
  unfold selection
  dsimp only
  split
  · exact .inl ⟨by assumption, rfl⟩
  · refine .inr ⟨_, by assumption, ?_⟩
    split
    · exact .inl ⟨by assumption, rfl⟩
    · refine .inr ⟨_, by assumption, ?_⟩
      split
      · exact .inl ⟨_, by assumption, rfl⟩
      · exact .inr ⟨by assumption, rfl⟩

/-- What a rescan can do: nothing, a reservation, or a wait (R132). -/
theorem rescan_cases (p : Fin 12) :
    s.rescan p = s ∨
    ∃ t g, s.tool? (s.position p).active = some t ∧ s.groupOf t = some g ∧
      ((∃ i, s.scan g = some i ∧ s.rescan p = s.giveSister p t.group g i) ∨
      (s.scan g = none ∧ s.rescan p = s.waitFor p t.group)) := by
  unfold rescan
  split
  · exact .inl rfl
  · split
    · exact .inl rfl
    · split
      · exact .inr ⟨_, _, by assumption, by assumption, .inl ⟨_, by assumption, rfl⟩⟩
      · split
        · exact .inl rfl
        · exact .inr ⟨_, _, by assumption, by assumption, .inr ⟨by assumption, rfl⟩⟩

/-- What a condition report can do: nothing, put the position DUE, select for it, or put it back to SERVING (R137). -/
theorem conditionReport_cases (p : Fin 12) (old new : Condition) :
    s.conditionReport p old new = s ∨
    (new = .spent ∧ (s.position p).state = .serving ∧ s.conditionReport p old new = s.rest p .due) ∨
    (new = .broken ∧ s.conditionReport p old new = s.selection p) ∨
    s.conditionReport p old new = s.backToServing p := by
  unfold conditionReport regained
  cases new <;> simp only [] <;> (repeat' split) <;> simp_all

/-- What a recompute can do: nothing, or the new condition, its notice and its hand-over (R9, R11). -/
theorem recompute_cases (n : Nat) :
    s.recompute n = s ∨
    ∃ t, s.tool? n = some t ∧ t.ordinaryCondition ≠ t.condition ∧
      s.recompute n =
        ((s.setTool n { t with condition := t.ordinaryCondition }).crossingNotice n t.condition
          { t with condition := t.ordinaryCondition }).handOver t.placement t.condition t.ordinaryCondition := by
  unfold recompute
  split
  · exact .inl rfl
  · split
    · exact .inl rfl
    · exact .inr ⟨_, by assumption, by assumption, rfl⟩

/-- What the burst of a station can do: nothing, or the mark, the commit and the detection (R89). -/
theorem takeBurst_cases (st : Fin 6) :
    ((s.monitor st).burstReached = none ∧ s.takeBurst st = s) ∨
    ∃ l, (s.monitor st).burstReached = some l ∧
      s.takeBurst st =
        ((s.setMonitor st { s.monitor st with burstDone := true, burstCounter := 0, runPeak := 0 }).commit
          [s.oldTool l.tool]).takeDetection ((s.monitor st).burstDetection st l) := by
  unfold takeBurst
  dsimp only
  split
  · exact .inl ⟨by assumption, rfl⟩
  · exact .inr ⟨_, by assumption, rfl⟩

end State

end Sys2Proof.Machine
end

