-- ==== Sys2Proof/Laws/Beside.lean ====
section
/-! SUPPORT. Selections, services and hand-overs do not read the link port, the monitors, the captures, the incidents and
the flags: they do the same whatever stands there. -/

namespace Sys2Proof.Machine

namespace State

/-- The state with the link port, the monitors, the captures, the incidents and the flags of another. -/
def beside (s u : State) : State :=
  { s with
    link := u.link
    monitors := u.monitors
    captures := u.captures
    incidents := u.incidents
    flags := u.flags }

variable (s u : State)

@[simp] theorem beside_powered : (s.beside u).powered = s.powered := rfl
@[simp] theorem beside_clock : (s.beside u).clock = s.clock := rfl
@[simp] theorem beside_tools : (s.beside u).tools = s.tools := rfl
@[simp] theorem beside_groups : (s.beside u).groups = s.groups := rfl
@[simp] theorem beside_configs : (s.beside u).configs = s.configs := rfl
@[simp] theorem beside_monitors : (s.beside u).monitors = u.monitors := rfl
@[simp] theorem beside_captures : (s.beside u).captures = u.captures := rfl
@[simp] theorem beside_incidents : (s.beside u).incidents = u.incidents := rfl
@[simp] theorem beside_flags : (s.beside u).flags = u.flags := rfl
@[simp] theorem beside_positions : (s.beside u).positions = s.positions := rfl
@[simp] theorem beside_notices : (s.beside u).notices = s.notices := rfl
@[simp] theorem beside_link : (s.beside u).link = u.link := rfl
@[simp] theorem beside_journal : (s.beside u).journal = s.journal := rfl
@[simp] theorem beside_pending : (s.beside u).pending = s.pending := rfl
@[simp] theorem beside_toolGet (n : Nat) : (s.beside u).tool? n = s.tool? n := rfl
@[simp] theorem beside_groupGet (n : Nat) : (s.beside u).group? n = s.group? n := rfl
@[simp] theorem beside_config (st : Fin 6) : (s.beside u).config st = s.config st := rfl
@[simp] theorem beside_position (p : Fin 12) : (s.beside u).position p = s.position p := rfl
@[simp] theorem beside_groupOf (t : Tool) : (s.beside u).groupOf t = s.groupOf t := rfl
@[simp] theorem beside_scan (g : Group) : (s.beside u).scan g = s.scan g := rfl
@[simp] theorem beside_eligibleNow (t : Tool) : (s.beside u).eligibleNow t = s.eligibleNow t := rfl
@[simp] theorem beside_oldestWaiting (g : Group) : (s.beside u).oldestWaiting g = s.oldestWaiting g := rfl

/-- A state is beside itself with its own parts. -/
theorem beside_self : s.beside s = s := rfl

theorem beside_withLink (l : LinkPort) : (s.beside u).withLink l = s.beside (u.withLink l) := rfl

theorem withLink_eq_beside (l : LinkPort) : s.withLink l = s.beside (s.withLink l) := rfl

theorem beside_commit (ws : List RetainedWrite) : (s.beside u).commit ws = (s.commit ws).beside u := rfl

theorem beside_setPosition (p : Fin 12) (x : Position) : (s.beside u).setPosition p x = (s.setPosition p x).beside u := rfl

theorem beside_setTool (n : Nat) (t : Tool) : (s.beside u).setTool n t = (s.setTool n t).beside u := rfl

theorem beside_setGroup (n : Nat) (g : Group) : (s.beside u).setGroup n g = (s.setGroup n g).beside u := rfl

theorem beside_notify (b : Bool) (k : NoticeKind) (st : Option (Fin 6)) (pk : Option Kind) (n x y : Nat) :
    (s.beside u).notify b k st pk n x y = (s.notify b k st pk n x y).beside u := rfl

theorem beside_modifyTool (n : Nat) (f : Tool → Tool) : (s.beside u).modifyTool n f = (s.modifyTool n f).beside u := by
  unfold modifyTool
  rw [beside_toolGet]
  cases s.tool? n <;> rfl

theorem beside_modifyGroup (n : Nat) (f : Group → Group) : (s.beside u).modifyGroup n f = (s.modifyGroup n f).beside u := by
  unfold modifyGroup
  rw [beside_groupGet]
  cases s.group? n <;> rfl

theorem beside_rest (p : Fin 12) (x : PositionState) : (s.beside u).rest p x = (s.rest p x).beside u := rfl

theorem beside_waitFor (p : Fin 12) (a : Nat) : (s.beside u).waitFor p a = (s.waitFor p a).beside u := rfl

theorem beside_leaveWaiting (p : Fin 12) : (s.beside u).leaveWaiting p = (s.leaveWaiting p).beside u := by
  unfold leaveWaiting
  rw [beside_position, beside_toolGet]
  cases s.tool? (s.position p).active
  · rfl
  · exact beside_modifyGroup ..

theorem beside_giveSister (p : Fin 12) (gno : Nat) (g : Group) (i : Nat) :
    (s.beside u).giveSister p gno g i = (s.giveSister p gno g i).beside u := by
  unfold giveSister
  dsimp only
  rw [show (s.beside u).oldTool (g.memberAt i) = s.oldTool (g.memberAt i) from rfl,
    show (s.beside u).oldGroup gno = s.oldGroup gno from rfl, beside_commit, beside_modifyTool]
  rfl

theorem beside_exhausted (p : Fin 12) (n : Nat) (t : Tool) (g : Group) :
    (s.beside u).exhausted p n t g = (s.exhausted p n t g).beside u := by
  unfold exhausted
  dsimp only
  rw [beside_modifyGroup]
  split
  · split
    · rfl
    · rw [show ((s.modifyGroup t.group fun g => g.join p).beside u).oldTool n =
        (s.modifyGroup t.group fun g => g.join p).oldTool n from rfl, beside_commit, beside_modifyTool]
      rfl
  · rfl

/-- A selection does the same whatever stands beside. -/
theorem beside_selection (p : Fin 12) : (s.beside u).selection p = (s.selection p).beside u := by
  unfold selection
  dsimp only
  rw [beside_position, beside_toolGet]
  split
  · rfl
  · rw [beside_groupOf]
    split
    · rfl
    · rw [beside_scan]
      split
      · exact beside_giveSister ..
      · exact beside_exhausted ..

theorem beside_serviceLoop (gno fuel : Nat) : (s.beside u).serviceLoop gno fuel = (s.serviceLoop gno fuel).beside u := by
  induction fuel generalizing s with
  | zero => rfl
  | succ fuel ih =>
    unfold serviceLoop
    rw [beside_groupGet]
    split
    · rfl
    · rw [beside_oldestWaiting]
      split
      · rfl
      · rw [beside_scan]
        split
        · rfl
        · rw [beside_giveSister, ih]

/-- An eligibility event does the same whatever stands beside. -/
theorem beside_eligibilityEvent (gno : Nat) : (s.beside u).eligibilityEvent gno = (s.eligibilityEvent gno).beside u := by
  unfold eligibilityEvent
  rw [beside_groupGet]
  split
  · rfl
  · exact beside_serviceLoop ..

/-- A report of eligibility does the same whatever stands beside. -/
theorem beside_reportIfEligible (n : Nat) : (s.beside u).reportIfEligible n = (s.reportIfEligible n).beside u := by
  unfold reportIfEligible
  rw [beside_toolGet]
  split
  · rfl
  · rw [beside_eligibleNow]
    split
    · exact beside_eligibilityEvent ..
    · rfl

/-- A rescan does the same whatever stands beside. -/
theorem beside_rescan (p : Fin 12) : (s.beside u).rescan p = (s.rescan p).beside u := by
  unfold rescan
  rw [beside_position, beside_toolGet]
  split
  · rfl
  · rw [beside_groupOf]
    split
    · rfl
    · rw [beside_scan]
      split
      · exact beside_giveSister ..
      · split <;> rfl

/-- A condition report does the same whatever stands beside. -/
theorem beside_conditionReport (p : Fin 12) (old new : Condition) :
    (s.beside u).conditionReport p old new = (s.conditionReport p old new).beside u := by
  have hb : (s.beside u).backToServing p = (s.backToServing p).beside u := by
    unfold backToServing
    rw [beside_leaveWaiting, beside_rest]
  unfold conditionReport regained
  rw [beside_position]
  cases new <;> dsimp only <;> (repeat' split) <;>
    first
    | rfl
    | exact hb
    | exact beside_selection ..

/-- A part end of a station does the same whatever stands beside. -/
theorem beside_partEnd (st : Fin 6) : (s.beside u).partEnd st = (s.partEnd st).beside u := by
  have h : ∀ (v : State) (p : Fin 12), (v.beside u).partEndAt p = (v.partEndAt p).beside u := by
    intro v p
    unfold partEndAt
    rw [beside_position]
    split <;> first | rfl | exact beside_selection .. | exact beside_rescan ..
  unfold partEnd
  rw [h, h]

/-! ### What they leave as it was -/

@[simp] theorem giveSister_monitors (p : Fin 12) (gno : Nat) (g : Group) (i : Nat) : (s.giveSister p gno g i).monitors = s.monitors := by
  have h := congrArg State.monitors (beside_giveSister s s p gno g i); exact h
@[simp] theorem giveSister_captures (p : Fin 12) (gno : Nat) (g : Group) (i : Nat) : (s.giveSister p gno g i).captures = s.captures := by
  have h := congrArg State.captures (beside_giveSister s s p gno g i); exact h
@[simp] theorem giveSister_incidents (p : Fin 12) (gno : Nat) (g : Group) (i : Nat) : (s.giveSister p gno g i).incidents = s.incidents := by
  have h := congrArg State.incidents (beside_giveSister s s p gno g i); exact h
@[simp] theorem giveSister_flags (p : Fin 12) (gno : Nat) (g : Group) (i : Nat) : (s.giveSister p gno g i).flags = s.flags := by
  have h := congrArg State.flags (beside_giveSister s s p gno g i); exact h
@[simp] theorem giveSister_link (p : Fin 12) (gno : Nat) (g : Group) (i : Nat) : (s.giveSister p gno g i).link = s.link := by
  have h := congrArg State.link (beside_giveSister s s p gno g i); exact h
@[simp] theorem giveSister_monitor (p : Fin 12) (gno : Nat) (g : Group) (i : Nat) (st' : Fin 6) : (s.giveSister p gno g i).monitor st' = s.monitor st' := by
  have h := congrArg (fun x => State.monitor x st') (beside_giveSister s s p gno g i); exact h
@[simp] theorem giveSister_capture (p : Fin 12) (gno : Nat) (g : Group) (i : Nat) (st' : Fin 6) : (s.giveSister p gno g i).capture st' = s.capture st' := by
  have h := congrArg (fun x => State.capture x st') (beside_giveSister s s p gno g i); exact h
@[simp] theorem giveSister_incident (p : Fin 12) (gno : Nat) (g : Group) (i : Nat) (st' : Fin 6) : (s.giveSister p gno g i).incident st' = s.incident st' := by
  have h := congrArg (fun x => State.incident x st') (beside_giveSister s s p gno g i); exact h
@[simp] theorem giveSister_flag (p : Fin 12) (gno : Nat) (g : Group) (i : Nat) (st' : Fin 6) : (s.giveSister p gno g i).flag st' = s.flag st' := by
  have h := congrArg (fun x => State.flag x st') (beside_giveSister s s p gno g i); exact h
theorem withLink_giveSister (p : Fin 12) (gno : Nat) (g : Group) (i : Nat) (l : LinkPort) : (s.withLink l).giveSister p gno g i = (s.giveSister p gno g i).withLink l := by
  have h := congrArg (fun x => State.withLink x l) (beside_giveSister s s p gno g i)
  exact (beside_giveSister s (s.withLink l) p gno g i).trans h.symm

@[simp] theorem waitFor_monitors (p : Fin 12) (a : Nat) : (s.waitFor p a).monitors = s.monitors := by
  have h := congrArg State.monitors (beside_waitFor s s p a); exact h
@[simp] theorem waitFor_captures (p : Fin 12) (a : Nat) : (s.waitFor p a).captures = s.captures := by
  have h := congrArg State.captures (beside_waitFor s s p a); exact h
@[simp] theorem waitFor_incidents (p : Fin 12) (a : Nat) : (s.waitFor p a).incidents = s.incidents := by
  have h := congrArg State.incidents (beside_waitFor s s p a); exact h
@[simp] theorem waitFor_flags (p : Fin 12) (a : Nat) : (s.waitFor p a).flags = s.flags := by
  have h := congrArg State.flags (beside_waitFor s s p a); exact h
@[simp] theorem waitFor_link (p : Fin 12) (a : Nat) : (s.waitFor p a).link = s.link := by
  have h := congrArg State.link (beside_waitFor s s p a); exact h
@[simp] theorem waitFor_monitor (p : Fin 12) (a : Nat) (st' : Fin 6) : (s.waitFor p a).monitor st' = s.monitor st' := by
  have h := congrArg (fun x => State.monitor x st') (beside_waitFor s s p a); exact h
@[simp] theorem waitFor_capture (p : Fin 12) (a : Nat) (st' : Fin 6) : (s.waitFor p a).capture st' = s.capture st' := by
  have h := congrArg (fun x => State.capture x st') (beside_waitFor s s p a); exact h
@[simp] theorem waitFor_incident (p : Fin 12) (a : Nat) (st' : Fin 6) : (s.waitFor p a).incident st' = s.incident st' := by
  have h := congrArg (fun x => State.incident x st') (beside_waitFor s s p a); exact h
@[simp] theorem waitFor_flag (p : Fin 12) (a : Nat) (st' : Fin 6) : (s.waitFor p a).flag st' = s.flag st' := by
  have h := congrArg (fun x => State.flag x st') (beside_waitFor s s p a); exact h
theorem withLink_waitFor (p : Fin 12) (a : Nat) (l : LinkPort) : (s.withLink l).waitFor p a = (s.waitFor p a).withLink l := by
  have h := congrArg (fun x => State.withLink x l) (beside_waitFor s s p a)
  exact (beside_waitFor s (s.withLink l) p a).trans h.symm

@[simp] theorem exhausted_monitors (p : Fin 12) (n : Nat) (t : Tool) (g : Group) : (s.exhausted p n t g).monitors = s.monitors := by
  have h := congrArg State.monitors (beside_exhausted s s p n t g); exact h
@[simp] theorem exhausted_captures (p : Fin 12) (n : Nat) (t : Tool) (g : Group) : (s.exhausted p n t g).captures = s.captures := by
  have h := congrArg State.captures (beside_exhausted s s p n t g); exact h
@[simp] theorem exhausted_incidents (p : Fin 12) (n : Nat) (t : Tool) (g : Group) : (s.exhausted p n t g).incidents = s.incidents := by
  have h := congrArg State.incidents (beside_exhausted s s p n t g); exact h
@[simp] theorem exhausted_flags (p : Fin 12) (n : Nat) (t : Tool) (g : Group) : (s.exhausted p n t g).flags = s.flags := by
  have h := congrArg State.flags (beside_exhausted s s p n t g); exact h
@[simp] theorem exhausted_link (p : Fin 12) (n : Nat) (t : Tool) (g : Group) : (s.exhausted p n t g).link = s.link := by
  have h := congrArg State.link (beside_exhausted s s p n t g); exact h
@[simp] theorem exhausted_monitor (p : Fin 12) (n : Nat) (t : Tool) (g : Group) (st' : Fin 6) : (s.exhausted p n t g).monitor st' = s.monitor st' := by
  have h := congrArg (fun x => State.monitor x st') (beside_exhausted s s p n t g); exact h
@[simp] theorem exhausted_capture (p : Fin 12) (n : Nat) (t : Tool) (g : Group) (st' : Fin 6) : (s.exhausted p n t g).capture st' = s.capture st' := by
  have h := congrArg (fun x => State.capture x st') (beside_exhausted s s p n t g); exact h
@[simp] theorem exhausted_incident (p : Fin 12) (n : Nat) (t : Tool) (g : Group) (st' : Fin 6) : (s.exhausted p n t g).incident st' = s.incident st' := by
  have h := congrArg (fun x => State.incident x st') (beside_exhausted s s p n t g); exact h
@[simp] theorem exhausted_flag (p : Fin 12) (n : Nat) (t : Tool) (g : Group) (st' : Fin 6) : (s.exhausted p n t g).flag st' = s.flag st' := by
  have h := congrArg (fun x => State.flag x st') (beside_exhausted s s p n t g); exact h
theorem withLink_exhausted (p : Fin 12) (n : Nat) (t : Tool) (g : Group) (l : LinkPort) : (s.withLink l).exhausted p n t g = (s.exhausted p n t g).withLink l := by
  have h := congrArg (fun x => State.withLink x l) (beside_exhausted s s p n t g)
  exact (beside_exhausted s (s.withLink l) p n t g).trans h.symm

@[simp] theorem selection_monitors (p : Fin 12) : (s.selection p).monitors = s.monitors := by
  have h := congrArg State.monitors (beside_selection s s p); exact h
@[simp] theorem selection_captures (p : Fin 12) : (s.selection p).captures = s.captures := by
  have h := congrArg State.captures (beside_selection s s p); exact h
@[simp] theorem selection_incidents (p : Fin 12) : (s.selection p).incidents = s.incidents := by
  have h := congrArg State.incidents (beside_selection s s p); exact h
@[simp] theorem selection_flags (p : Fin 12) : (s.selection p).flags = s.flags := by
  have h := congrArg State.flags (beside_selection s s p); exact h
@[simp] theorem selection_link (p : Fin 12) : (s.selection p).link = s.link := by
  have h := congrArg State.link (beside_selection s s p); exact h
@[simp] theorem selection_monitor (p : Fin 12) (st' : Fin 6) : (s.selection p).monitor st' = s.monitor st' := by
  have h := congrArg (fun x => State.monitor x st') (beside_selection s s p); exact h
@[simp] theorem selection_capture (p : Fin 12) (st' : Fin 6) : (s.selection p).capture st' = s.capture st' := by
  have h := congrArg (fun x => State.capture x st') (beside_selection s s p); exact h
@[simp] theorem selection_incident (p : Fin 12) (st' : Fin 6) : (s.selection p).incident st' = s.incident st' := by
  have h := congrArg (fun x => State.incident x st') (beside_selection s s p); exact h
@[simp] theorem selection_flag (p : Fin 12) (st' : Fin 6) : (s.selection p).flag st' = s.flag st' := by
  have h := congrArg (fun x => State.flag x st') (beside_selection s s p); exact h
theorem withLink_selection (p : Fin 12) (l : LinkPort) : (s.withLink l).selection p = (s.selection p).withLink l := by
  have h := congrArg (fun x => State.withLink x l) (beside_selection s s p)
  exact (beside_selection s (s.withLink l) p).trans h.symm

@[simp] theorem eligibilityEvent_monitors (gno : Nat) : (s.eligibilityEvent gno).monitors = s.monitors := by
  have h := congrArg State.monitors (beside_eligibilityEvent s s gno); exact h
@[simp] theorem eligibilityEvent_captures (gno : Nat) : (s.eligibilityEvent gno).captures = s.captures := by
  have h := congrArg State.captures (beside_eligibilityEvent s s gno); exact h
@[simp] theorem eligibilityEvent_incidents (gno : Nat) : (s.eligibilityEvent gno).incidents = s.incidents := by
  have h := congrArg State.incidents (beside_eligibilityEvent s s gno); exact h
@[simp] theorem eligibilityEvent_flags (gno : Nat) : (s.eligibilityEvent gno).flags = s.flags := by
  have h := congrArg State.flags (beside_eligibilityEvent s s gno); exact h
@[simp] theorem eligibilityEvent_link (gno : Nat) : (s.eligibilityEvent gno).link = s.link := by
  have h := congrArg State.link (beside_eligibilityEvent s s gno); exact h
@[simp] theorem eligibilityEvent_monitor (gno : Nat) (st' : Fin 6) : (s.eligibilityEvent gno).monitor st' = s.monitor st' := by
  have h := congrArg (fun x => State.monitor x st') (beside_eligibilityEvent s s gno); exact h
@[simp] theorem eligibilityEvent_capture (gno : Nat) (st' : Fin 6) : (s.eligibilityEvent gno).capture st' = s.capture st' := by
  have h := congrArg (fun x => State.capture x st') (beside_eligibilityEvent s s gno); exact h
@[simp] theorem eligibilityEvent_incident (gno : Nat) (st' : Fin 6) : (s.eligibilityEvent gno).incident st' = s.incident st' := by
  have h := congrArg (fun x => State.incident x st') (beside_eligibilityEvent s s gno); exact h
@[simp] theorem eligibilityEvent_flag (gno : Nat) (st' : Fin 6) : (s.eligibilityEvent gno).flag st' = s.flag st' := by
  have h := congrArg (fun x => State.flag x st') (beside_eligibilityEvent s s gno); exact h
theorem withLink_eligibilityEvent (gno : Nat) (l : LinkPort) : (s.withLink l).eligibilityEvent gno = (s.eligibilityEvent gno).withLink l := by
  have h := congrArg (fun x => State.withLink x l) (beside_eligibilityEvent s s gno)
  exact (beside_eligibilityEvent s (s.withLink l) gno).trans h.symm

@[simp] theorem reportIfEligible_monitors (n : Nat) : (s.reportIfEligible n).monitors = s.monitors := by
  have h := congrArg State.monitors (beside_reportIfEligible s s n); exact h
@[simp] theorem reportIfEligible_captures (n : Nat) : (s.reportIfEligible n).captures = s.captures := by
  have h := congrArg State.captures (beside_reportIfEligible s s n); exact h
@[simp] theorem reportIfEligible_incidents (n : Nat) : (s.reportIfEligible n).incidents = s.incidents := by
  have h := congrArg State.incidents (beside_reportIfEligible s s n); exact h
@[simp] theorem reportIfEligible_flags (n : Nat) : (s.reportIfEligible n).flags = s.flags := by
  have h := congrArg State.flags (beside_reportIfEligible s s n); exact h
@[simp] theorem reportIfEligible_link (n : Nat) : (s.reportIfEligible n).link = s.link := by
  have h := congrArg State.link (beside_reportIfEligible s s n); exact h
@[simp] theorem reportIfEligible_monitor (n : Nat) (st' : Fin 6) : (s.reportIfEligible n).monitor st' = s.monitor st' := by
  have h := congrArg (fun x => State.monitor x st') (beside_reportIfEligible s s n); exact h
@[simp] theorem reportIfEligible_capture (n : Nat) (st' : Fin 6) : (s.reportIfEligible n).capture st' = s.capture st' := by
  have h := congrArg (fun x => State.capture x st') (beside_reportIfEligible s s n); exact h
@[simp] theorem reportIfEligible_incident (n : Nat) (st' : Fin 6) : (s.reportIfEligible n).incident st' = s.incident st' := by
  have h := congrArg (fun x => State.incident x st') (beside_reportIfEligible s s n); exact h
@[simp] theorem reportIfEligible_flag (n : Nat) (st' : Fin 6) : (s.reportIfEligible n).flag st' = s.flag st' := by
  have h := congrArg (fun x => State.flag x st') (beside_reportIfEligible s s n); exact h
theorem withLink_reportIfEligible (n : Nat) (l : LinkPort) : (s.withLink l).reportIfEligible n = (s.reportIfEligible n).withLink l := by
  have h := congrArg (fun x => State.withLink x l) (beside_reportIfEligible s s n)
  exact (beside_reportIfEligible s (s.withLink l) n).trans h.symm

@[simp] theorem rescan_monitors (p : Fin 12) : (s.rescan p).monitors = s.monitors := by
  have h := congrArg State.monitors (beside_rescan s s p); exact h
@[simp] theorem rescan_captures (p : Fin 12) : (s.rescan p).captures = s.captures := by
  have h := congrArg State.captures (beside_rescan s s p); exact h
@[simp] theorem rescan_incidents (p : Fin 12) : (s.rescan p).incidents = s.incidents := by
  have h := congrArg State.incidents (beside_rescan s s p); exact h
@[simp] theorem rescan_flags (p : Fin 12) : (s.rescan p).flags = s.flags := by
  have h := congrArg State.flags (beside_rescan s s p); exact h
@[simp] theorem rescan_link (p : Fin 12) : (s.rescan p).link = s.link := by
  have h := congrArg State.link (beside_rescan s s p); exact h
@[simp] theorem rescan_monitor (p : Fin 12) (st' : Fin 6) : (s.rescan p).monitor st' = s.monitor st' := by
  have h := congrArg (fun x => State.monitor x st') (beside_rescan s s p); exact h
@[simp] theorem rescan_capture (p : Fin 12) (st' : Fin 6) : (s.rescan p).capture st' = s.capture st' := by
  have h := congrArg (fun x => State.capture x st') (beside_rescan s s p); exact h
@[simp] theorem rescan_incident (p : Fin 12) (st' : Fin 6) : (s.rescan p).incident st' = s.incident st' := by
  have h := congrArg (fun x => State.incident x st') (beside_rescan s s p); exact h
@[simp] theorem rescan_flag (p : Fin 12) (st' : Fin 6) : (s.rescan p).flag st' = s.flag st' := by
  have h := congrArg (fun x => State.flag x st') (beside_rescan s s p); exact h
theorem withLink_rescan (p : Fin 12) (l : LinkPort) : (s.withLink l).rescan p = (s.rescan p).withLink l := by
  have h := congrArg (fun x => State.withLink x l) (beside_rescan s s p)
  exact (beside_rescan s (s.withLink l) p).trans h.symm

@[simp] theorem conditionReport_monitors (p : Fin 12) (old new : Condition) : (s.conditionReport p old new).monitors = s.monitors := by
  have h := congrArg State.monitors (beside_conditionReport s s p old new); exact h
@[simp] theorem conditionReport_captures (p : Fin 12) (old new : Condition) : (s.conditionReport p old new).captures = s.captures := by
  have h := congrArg State.captures (beside_conditionReport s s p old new); exact h
@[simp] theorem conditionReport_incidents (p : Fin 12) (old new : Condition) : (s.conditionReport p old new).incidents = s.incidents := by
  have h := congrArg State.incidents (beside_conditionReport s s p old new); exact h
@[simp] theorem conditionReport_flags (p : Fin 12) (old new : Condition) : (s.conditionReport p old new).flags = s.flags := by
  have h := congrArg State.flags (beside_conditionReport s s p old new); exact h
@[simp] theorem conditionReport_link (p : Fin 12) (old new : Condition) : (s.conditionReport p old new).link = s.link := by
  have h := congrArg State.link (beside_conditionReport s s p old new); exact h
@[simp] theorem conditionReport_monitor (p : Fin 12) (old new : Condition) (st' : Fin 6) : (s.conditionReport p old new).monitor st' = s.monitor st' := by
  have h := congrArg (fun x => State.monitor x st') (beside_conditionReport s s p old new); exact h
@[simp] theorem conditionReport_capture (p : Fin 12) (old new : Condition) (st' : Fin 6) : (s.conditionReport p old new).capture st' = s.capture st' := by
  have h := congrArg (fun x => State.capture x st') (beside_conditionReport s s p old new); exact h
@[simp] theorem conditionReport_incident (p : Fin 12) (old new : Condition) (st' : Fin 6) : (s.conditionReport p old new).incident st' = s.incident st' := by
  have h := congrArg (fun x => State.incident x st') (beside_conditionReport s s p old new); exact h
@[simp] theorem conditionReport_flag (p : Fin 12) (old new : Condition) (st' : Fin 6) : (s.conditionReport p old new).flag st' = s.flag st' := by
  have h := congrArg (fun x => State.flag x st') (beside_conditionReport s s p old new); exact h
theorem withLink_conditionReport (p : Fin 12) (old new : Condition) (l : LinkPort) : (s.withLink l).conditionReport p old new = (s.conditionReport p old new).withLink l := by
  have h := congrArg (fun x => State.withLink x l) (beside_conditionReport s s p old new)
  exact (beside_conditionReport s (s.withLink l) p old new).trans h.symm

@[simp] theorem partEnd_monitors (st : Fin 6) : (s.partEnd st).monitors = s.monitors := by
  have h := congrArg State.monitors (beside_partEnd s s st); exact h
@[simp] theorem partEnd_captures (st : Fin 6) : (s.partEnd st).captures = s.captures := by
  have h := congrArg State.captures (beside_partEnd s s st); exact h
@[simp] theorem partEnd_incidents (st : Fin 6) : (s.partEnd st).incidents = s.incidents := by
  have h := congrArg State.incidents (beside_partEnd s s st); exact h
@[simp] theorem partEnd_flags (st : Fin 6) : (s.partEnd st).flags = s.flags := by
  have h := congrArg State.flags (beside_partEnd s s st); exact h
@[simp] theorem partEnd_link (st : Fin 6) : (s.partEnd st).link = s.link := by
  have h := congrArg State.link (beside_partEnd s s st); exact h
@[simp] theorem partEnd_monitor (st : Fin 6) (st' : Fin 6) : (s.partEnd st).monitor st' = s.monitor st' := by
  have h := congrArg (fun x => State.monitor x st') (beside_partEnd s s st); exact h
@[simp] theorem partEnd_capture (st : Fin 6) (st' : Fin 6) : (s.partEnd st).capture st' = s.capture st' := by
  have h := congrArg (fun x => State.capture x st') (beside_partEnd s s st); exact h
@[simp] theorem partEnd_incident (st : Fin 6) (st' : Fin 6) : (s.partEnd st).incident st' = s.incident st' := by
  have h := congrArg (fun x => State.incident x st') (beside_partEnd s s st); exact h
@[simp] theorem partEnd_flag (st : Fin 6) (st' : Fin 6) : (s.partEnd st).flag st' = s.flag st' := by
  have h := congrArg (fun x => State.flag x st') (beside_partEnd s s st); exact h
theorem withLink_partEnd (st : Fin 6) (l : LinkPort) : (s.withLink l).partEnd st = (s.partEnd st).withLink l := by
  have h := congrArg (fun x => State.withLink x l) (beside_partEnd s s st)
  exact (beside_partEnd s (s.withLink l) st).trans h.symm

end State

end Sys2Proof.Machine
end

