-- ==== Sys2Proof/Laws/Commits.lean ====
section
/-! SUPPORT. What undoing commits leaves in each retained record (R22). -/

namespace Sys2Proof.Machine

namespace State

variable {s : State}

/-- A record put back is what the write says it held; every other tool is as it was. -/
theorem putBack_toolGet (h : tableWf s.tools = true) (w : RetainedWrite) (n : Nat) :
    (s.putBack w).tool? n = (w.toolBefore n).getD (s.tool? n) := by
  rcases w with ⟨m, _ | t⟩ | ⟨m, _ | g⟩ | ⟨st, c⟩ | ⟨ts, gs⟩ <;>
    simp only [putBack, RetainedWrite.toolBefore, eraseTool_toolGet h, setTool_toolGet] <;>
    (try rfl) <;> by_cases hm : n = m <;> simp [hm, eq_comm]

theorem putBack_groupGet (h : tableWf s.groups = true) (w : RetainedWrite) (n : Nat) :
    (s.putBack w).group? n = (w.groupBefore n).getD (s.group? n) := by
  rcases w with ⟨m, _ | t⟩ | ⟨m, _ | g⟩ | ⟨st, c⟩ | ⟨ts, gs⟩ <;>
    simp only [putBack, RetainedWrite.groupBefore, eraseGroup_groupGet h, setGroup_groupGet] <;>
    (try rfl) <;> by_cases hm : n = m <;> simp [hm, eq_comm]

theorem putBack_configGet (w : RetainedWrite) (st : Fin 6) :
    (s.putBack w).config st = (w.configBefore st).getD (s.config st) := by
  rcases w with ⟨m, _ | t⟩ | ⟨m, _ | g⟩ | ⟨other, c⟩ | ⟨ts, gs⟩ <;>
    simp only [putBack, RetainedWrite.configBefore] <;> (try rfl)
  by_cases hm : other = st
  · subst hm; simp [config, setConfig]
  · have : (other : Nat) ≠ st := fun h => hm (Fin.ext h)
    simp [config, setConfig, hm, withConfigs, this]

/-- What a record that a commit would put back keeps canonical, its putting back keeps so. -/
theorem tableWf_putBack (ht : tableWf s.tools = true) (hg : tableWf s.groups = true) {w : RetainedWrite} (hw : w.ok) :
    tableWf (s.putBack w).tools = true ∧ tableWf (s.putBack w).groups = true := by
  rcases w with ⟨m, _ | t⟩ | ⟨m, _ | g⟩ | ⟨st, c⟩ | ⟨ts, gs⟩ <;> simp only [RetainedWrite.ok] at hw
  · exact ⟨tableWf_tableErase ht _, hg⟩
  · exact ⟨tableWf_tablePut ht hw _, hg⟩
  · exact ⟨ht, tableWf_tableErase hg _⟩
  · exact ⟨ht, tableWf_tablePut hg hw _⟩
  · exact ⟨ht, hg⟩
  · exact hw

/-- Undoing commits puts their writes back one after another, the newest commit's first. -/
theorem undoCommits_eq (s : State) (k : Nat) (j : List Commit) :
    s.undoCommits k j = (j.take k).flatten.foldl putBack s := by
  induction k generalizing s j with
  | zero => rfl
  | succ k ih =>
    cases j with
    | nil => rfl
    | cons c rest => simp only [undoCommits, List.take_succ_cons, List.flatten_cons, List.foldl_append, ih]

/-- The last of the writes put back that is of a record decides what it holds. -/
theorem foldl_putBack {α : Type} (before : RetainedWrite → Option α) (read : State → α)
    (hread : ∀ (s : State) (w : RetainedWrite), tableWf s.tools = true → tableWf s.groups = true →
      read (s.putBack w) = (before w).getD (read s))
    (ws : List RetainedWrite) (s : State) (ht : tableWf s.tools = true) (hg : tableWf s.groups = true)
    (hok : ∀ w ∈ ws, RetainedWrite.ok w) :
    read (ws.foldl putBack s) = ((ws.filterMap before).getLast?).getD (read s) := by
  induction ws generalizing s with
  | nil => rfl
  | cons w ws ih =>
    have hs := tableWf_putBack ht hg (hok w (List.mem_cons_self ..))
    rw [List.foldl_cons, ih _ hs.1 hs.2 fun v hv => hok v (List.mem_cons_of_mem _ hv), hread s w ht hg]
    cases hb : before w with
    | none => simp [hb]
    | some x => simp [hb, List.getLast?_cons]

end State

end Sys2Proof.Machine
end

