-- ==== Sys2Proof/Laws/Requests.lean ====
section
/-! SUPPORT. How a request is answered, said once: the state at its owning block, its refusal, and the frame. -/

namespace Sys2Proof.Machine

/-- A frame is shown part by part. -/
theorem onlyChanges_of {s t : State} {l : List Part}
    (powered : .powered ∈ l ∨ t.powered = s.powered) (clock : .clock ∈ l ∨ t.clock = s.clock)
    (tools : .tools ∈ l ∨ t.tools = s.tools) (groups : .groups ∈ l ∨ t.groups = s.groups)
    (configs : .configs ∈ l ∨ t.configs = s.configs) (monitors : .monitors ∈ l ∨ t.monitors = s.monitors)
    (captures : .captures ∈ l ∨ t.captures = s.captures) (incidents : .incidents ∈ l ∨ t.incidents = s.incidents)
    (flags : .flags ∈ l ∨ t.flags = s.flags) (positions : .positions ∈ l ∨ t.positions = s.positions)
    (notices : .notices ∈ l ∨ t.notices = s.notices) (link : .link ∈ l ∨ t.link = s.link)
    (journal : .journal ∈ l ∨ t.journal = s.journal) (pending : .pending ∈ l ∨ t.pending = s.pending) :
    onlyChanges l s t := by
  intro x hx
  cases x <;> simp only [Part.same] <;> simp_all

/-- What a frame over more parts follows from. -/
theorem onlyChanges_mono {s t : State} {l m : List Part} (h : onlyChanges l s t) (hl : l ⊆ m) : onlyChanges m s t :=
  fun x hx => h x fun hm => hx (hl hm)

/-- Frames over one list compose. -/
theorem onlyChanges_trans {s t u : State} {l : List Part} (h : onlyChanges l s t) (k : onlyChanges l t u) :
    onlyChanges l s u := by
  intro x hx
  have h1 := h x hx
  have h2 := k x hx
  cases x <;> simp only [Part.same] at * <;> exact h2.trans h1

/-- One record written: it alone differs. -/
theorem oneBecomes_set {α : Type} {k : Nat} (v : Vector α k) (i : Fin k) (x : α) : oneBecomes i x v (v.set i x) := by
  intro j
  simp only [Fin.getElem_fin, Vector.getElem_set]
  by_cases h : (i : Nat) = j
  · simp [h, Fin.ext_iff]
  · simp [h, Fin.ext_iff, Ne.symm h]

/-- A record written as it was: none differs. -/
theorem oneBecomes_self {α : Type} {k : Nat} (v : Vector α k) (i : Fin k) : oneBecomes i v[i] v v := by
  intro j
  split
  · subst_vars; rfl
  · rfl

/-- The state as the owning block finds it: the journal begun, the port in EXECUTE. -/
def State.atWork (s : State) : State := (s.withJournal []).withLink s.link.executing

/-- A request is its work at the owning block, and the reply. -/
theorem State.serve_eq (s : State) (work : State → Answer) :
    s.serve work = (work s.atWork).state.withLink
      ((work s.atWork).state.link.sending ⟨s.summaryByte, (work s.atWork).result, (work s.atWork).body⟩) := rfl

/-- A request whose work refuses it is refused. -/
theorem refused_of {s : State} {work : State → Answer} {r : ResultCode} (h : work s.atWork = s.atWork.refuse r) :
    refused s (s.serve work) r := by
  rw [State.serve_eq, h]
  refine ⟨rfl, rfl, ?_⟩
  intro x hx
  cases x <;> first | rfl | simp at hx

/-- A request whose work keeps the port in EXECUTE is answered by its result and its body. -/
theorem serve_taken {s : State} {work : State → Answer} {t : State} {r : ResultCode} {body : List Byte}
    (h : work s.atWork = ⟨t, r, body⟩) (hl : t.link = s.link.executing) :
    s.serve work = t.withLink (s.link.sending ⟨s.summaryByte, r, body⟩) := by
  rw [State.serve_eq, h]
  dsimp only
  rw [hl]
  rfl

/-! ### The state at the owning block -/

namespace State

variable (s : State)

@[simp] theorem atWork_powered : s.atWork.powered = s.powered := rfl
@[simp] theorem atWork_clock : s.atWork.clock = s.clock := rfl
@[simp] theorem atWork_tools : s.atWork.tools = s.tools := rfl
@[simp] theorem atWork_groups : s.atWork.groups = s.groups := rfl
@[simp] theorem atWork_configs : s.atWork.configs = s.configs := rfl
@[simp] theorem atWork_monitors : s.atWork.monitors = s.monitors := rfl
@[simp] theorem atWork_captures : s.atWork.captures = s.captures := rfl
@[simp] theorem atWork_incidents : s.atWork.incidents = s.incidents := rfl
@[simp] theorem atWork_flags : s.atWork.flags = s.flags := rfl
@[simp] theorem atWork_positions : s.atWork.positions = s.positions := rfl
@[simp] theorem atWork_notices : s.atWork.notices = s.notices := rfl
@[simp] theorem atWork_link : s.atWork.link = s.link.executing := rfl
@[simp] theorem atWork_journal : s.atWork.journal = [] := rfl
@[simp] theorem atWork_pending : s.atWork.pending = s.pending := rfl
@[simp] theorem atWork_toolGet (n : Nat) : s.atWork.tool? n = s.tool? n := rfl
@[simp] theorem atWork_groupGet (n : Nat) : s.atWork.group? n = s.group? n := rfl
@[simp] theorem atWork_config (st : Fin 6) : s.atWork.config st = s.config st := rfl
@[simp] theorem atWork_monitor (st : Fin 6) : s.atWork.monitor st = s.monitor st := rfl
@[simp] theorem atWork_capture (st : Fin 6) : s.atWork.capture st = s.capture st := rfl
@[simp] theorem atWork_incident (st : Fin 6) : s.atWork.incident st = s.incident st := rfl
@[simp] theorem atWork_flag (st : Fin 6) : s.atWork.flag st = s.flag st := rfl
@[simp] theorem atWork_position (p : Fin 12) : s.atWork.position p = s.position p := rfl
@[simp] theorem atWork_eligibleNow (t : Tool) : s.atWork.eligibleNow t = s.eligibleNow t := rfl

end State

/-! ### Operands -/

theorem positionArg_of_lt {n : Nat} (h : n < 12) : positionArg n = some ⟨n, h⟩ := by simp [positionArg, h]

@[simp] theorem positionArg_val (p : Fin 12) : positionArg p.val = some p := by simp [positionArg]

theorem positionArg_of_gt {n : Nat} (h : 11 < n) : positionArg n = none := by
  simp [positionArg, show ¬n < 12 by omega]

@[simp] theorem stationArg_val (st : Fin 6) : stationArg st.val = some st := by simp [stationArg]

theorem stationArg_of_gt {n : Nat} (h : 5 < n) : stationArg n = none := by
  simp [stationArg, show ¬n < 6 by omega]

theorem isToolNumber_iff {n : Nat} : isToolNumber n = true ↔ n ≠ 0 ∧ n ≤ 128 := by
  simp [isToolNumber]; omega

theorem isGroupNumber_iff {n : Nat} : isGroupNumber n = true ↔ n ≠ 0 ∧ n ≤ 32 := by
  simp [isGroupNumber]; omega

/-! ### Tools, and the change of a position's tool -/

theorem Condition.serviceable_iff (x : Condition) : x.serviceable = true ↔ x = .sound ∨ x = .warned := by
  cases x <;> simp [Condition.serviceable]

/-- Eligibility as R126's three tests. -/
theorem Tool.eligible_iff (x : Tool) (margin : Nat) : x.eligible margin = true ↔
    x.placement = .store ∧ (x.condition = .sound ∨ x.condition = .warned) ∧ margin ≤ x.remainingPasses := by
  simp [Tool.eligible, Condition.serviceable_iff, and_assoc]

/-- The report of a tool change sets the void marks of R41 and R42. -/
theorem Monitor.toolChanged_eq (m : Monitor) (k : Kind) : m.toolChanged k = m.afterToolChange k false := by
  unfold Monitor.toolChanged Monitor.afterToolChange
  obtain ⟨st, _, _, _, op⟩ := m
  cases st <;> cases k <;> cases op <;> simp

/-- The report of a tool change writes the one monitor of the position's station. -/
theorem State.reportToolChange_eq (s : State) (p : Fin 12) : s.reportToolChange p =
    s.setMonitor (stationOf p) ((s.monitor (stationOf p)).afterToolChange (seatKind p) false) := by
  simp only [State.reportToolChange, State.modifyMonitor, Monitor.toolChanged_eq]

/-- The report of a mounted tool, with the AIR counter of a wheel position, writes the one monitor of the station. -/
theorem State.mountReport_eq (s : State) (p : Fin 12) : (s.reportToolChange p).clearAir p =
    s.setMonitor (stationOf p) ((s.monitor (stationOf p)).afterToolChange (seatKind p) true) := by
  rw [State.reportToolChange_eq]
  unfold State.clearAir
  cases seatKind p
  · simp [State.modifyMonitor, State.setMonitor, State.withMonitors, State.monitor, Monitor.afterToolChange]
  · simp [Monitor.afterToolChange]

end Sys2Proof.Machine
end

