-- ==== Sys2Proof/Tests/Slice0.lean ====
section
/-! SUPPORT. The model's own tests: ill-formed commands, each command at the boundaries of its checks, the manual's worked
figures, and for each statement with hypotheses a state and operands that meet them. -/

namespace Sys2Proof.Tests

open Sys2Proof Sys2Proof.Machine

/-! ### A small cell -/

/-- The state a command leaves. -/
def after (c : Instr) (s : State) : State :=
  match exec c s with
  | .next t => t
  | .fault _ => s
  | .refused _ => s

/-- The result code of the last reply. -/
def result (s : State) : Option ResultCode := s.link.reply.map fun r => r.result

/-- The body of the last reply. -/
def body (s : State) : List Byte := (s.link.reply.map fun r => r.body).getD []

/-- The part has power, and each command is answered with its result code. -/
def answers (s : State) (asked : List (Instr × ResultCode)) : Bool :=
  s.powered && asked.all fun x => decide (result (after x.1 s) = some x.2)

/-- A tool of a kind, in a group, at a place, with a life of 100 passes. -/
def tool (kind : Kind) (group : Nat) (place : Placement) (condition : Condition) (used : Nat) : Tool :=
  ⟨kind, 700, group, place, condition, 100, 90, used, 3000, 2, 4, 4, 614, 1638, if kind = .wheel then 1000 else 0,
    if kind = .wheel then 5 else 0, if kind = .dresser then 5 else 0, 0, refsCleared, Tallies.zero⟩

/-- Station 0 is present and idle with wheel 1 of group 1 and the ungrouped dresser 5; wheels 2 and 128 are in STORE. -/
def cell : State :=
  { State.reset with
    tools := [(1, tool .wheel 1 (.mounted 0) .sound 0), (2, tool .wheel 1 .store .sound 0),
      (5, tool .dresser 0 (.mounted 1) .sound 0), (128, tool .wheel 0 .store .sound 0)]
    groups := [(1, ⟨.wheel, [1, 2], .chain, 0, 3, .hold, 0, ⟨.condemn, .suspend, .report, .ignore⟩, []⟩)]
    configs := State.reset.configs.set 0 ⟨true, 2000, 1, 3, 200, .hold, 10⟩
    monitors := State.reset.monitors.set 0 { Monitor.fresh .idle with primed := true }
    positions := (State.reset.positions.set 0 ⟨.serving, 1, 0, 0⟩).set 1 ⟨.serving, 5, 0, 0⟩ }

/-- The tools of the cell, by number. -/
theorem cell_tool (n : Nat) : cell.tool? n =
    if 1 = n then some (tool .wheel 1 (.mounted 0) .sound 0) else if 2 = n then some (tool .wheel 1 .store .sound 0)
    else if 5 = n then some (tool .dresser 0 (.mounted 1) .sound 0)
    else if 128 = n then some (tool .wheel 0 .store .sound 0) else none := rfl

/-- The cell with position 0 in another state with its wheel. -/
def cellAt (x : PositionState) : State := cell.setPosition 0 ⟨x, 1, 0, 0⟩

/-- The cell with wheel 2 ordered for position 0. -/
def ordered : State :=
  (cell.setTool 2 (tool .wheel 1 (.reserved 0) .sound 0)).setPosition 0 ⟨.ordered, 1, 2, 10000⟩

/-- The record a pass of wheel 1 latches at station 0. -/
def latched : Latched :=
  ⟨.pass, some 0, 1, 0, 2000, 1, 200, some ⟨3000, 2⟩, some ⟨4, 4, 614, 1638⟩, none, none, false, false⟩

/-- The record a dress by dresser 5 latches at station 0. -/
def latchedDress : Latched :=
  ⟨.dress, none, 1, 5, 0, 1, 200, some ⟨3000, 2⟩, none, some 5, some 5, false, false⟩

/-- Every tool of the tests is in range. -/
theorem tool_inRange {used : Nat} (kind : Kind) (group : Nat) (place : Placement) {condition : Condition}
    (h : used ≤ 4294967295) : (tool kind group place condition used).inRange := by
  have hr : ∀ c : Fin 4, refsCleared[c] = ClassRef.cleared := fun c => by simp [refsCleared]
  cases kind <;> simp [Tool.inRange, tool, max32, hr, ClassRef.inRange, ClassRef.cleared, Tallies.zero, h]

/-- Lines with PASS and DRESS at the given levels. -/
def lines (pass dress : Bool) : Lines := ⟨pass, dress, false, false, false⟩

/-- The cell, idle, at the first HIGH sample of the given lines: a second one makes the rise. -/
def rising (pass dress part : Bool) : State :=
  cell.setMonitor 0 { cell.monitor 0 with differing := ⟨pass, dress, part, false, false⟩ }

/-- The cell in a pass with PASS high, about to fall when `falling`. -/
def passing (falling : Bool) : State :=
  cell.setMonitor 0
    { cell.monitor 0 with
      state := .pass
      filtered := lines true false
      differing := lines falling false
      op := some latched
      energy := 5000
      sampleCount := 9 }

/-- The passing cell with the power channel's counter at `stuck` after `count` samples, of which one is blanked. -/
def stuckAt (stuck count : Nat) : State :=
  (passing false).setMonitor 0 { (passing false).monitor 0 with power := ⟨some 9, stuck, false⟩, sampleCount := count }

/-- The cell in a dress with DRESS high, about to fall when `falling`. -/
def dressing (falling : Bool) : State :=
  cell.setMonitor 0
    { cell.monitor 0 with
      state := .dress
      filtered := lines false true
      differing := lines false falling
      op := some latchedDress }

/-- The cell with an open SUSPEND incident of wheel 1 at station 0, its ring frozen. -/
def incident : State :=
  (cell.setIncident 0 ⟨true, some .burst, some .suspend, 1, some .wheel, some 0, 3400, 7, 0, false⟩).setCapture 0
    ⟨[(1, 2), (3, 4)], 2, .frozen, some 1, 256⟩

/-! ### Ill-formed commands -/

theorem test_wf_tool_requests :
    ([.defineTool 256 0 0 0 0 0 0 0 0 0 0 0 0 0, .defineTool 0 256 0 0 0 0 0 0 0 0 0 0 0 0,
      .defineTool 0 0 65536 0 0 0 0 0 0 0 0 0 0 0, .defineTool 0 0 0 4294967296 0 0 0 0 0 0 0 0 0 0,
      .defineTool 0 0 0 0 256 0 0 0 0 0 0 0 0 0, .defineTool 0 0 0 0 0 65536 0 0 0 0 0 0 0 0,
      .defineTool 0 0 0 0 0 0 256 0 0 0 0 0 0 0, .defineTool 0 0 0 0 0 0 0 256 0 0 0 0 0 0,
      .defineTool 0 0 0 0 0 0 0 0 256 0 0 0 0 0, .defineTool 0 0 0 0 0 0 0 0 0 65536 0 0 0 0,
      .defineTool 0 0 0 0 0 0 0 0 0 0 65536 0 0 0, .defineTool 0 0 0 0 0 0 0 0 0 0 0 65536 0 0,
      .defineTool 0 0 0 0 0 0 0 0 0 0 0 0 256 0, .defineTool 0 0 0 0 0 0 0 0 0 0 0 0 0 256,
      .adjustTool 256 0 0 0 0 0 0 0 0 0 0 0, .adjustTool 0 65536 0 0 0 0 0 0 0 0 0 0,
      .adjustTool 0 0 65536 0 0 0 0 0 0 0 0 0, .adjustTool 0 0 0 4294967296 0 0 0 0 0 0 0 0,
      .adjustTool 0 0 0 0 256 0 0 0 0 0 0 0, .adjustTool 0 0 0 0 0 65536 0 0 0 0 0 0,
      .adjustTool 0 0 0 0 0 0 256 0 0 0 0 0, .adjustTool 0 0 0 0 0 0 0 256 0 0 0 0,
      .adjustTool 0 0 0 0 0 0 0 0 256 0 0 0, .adjustTool 0 0 0 0 0 0 0 0 0 65536 0 0,
      .adjustTool 0 0 0 0 0 0 0 0 0 0 65536 0, .adjustTool 0 0 0 0 0 0 0 0 0 0 0 256,
      .readTool 256, .deleteTool 256, .renewTool 256 0, .renewTool 0 65536, .withdrawTool 256, .reinstateTool 256,
      .clearReference 256 0, .clearReference 0 256].all fun c => !Instr.wf c) = true := by decide

theorem test_wf_group_and_station_requests :
    ([.defineGroup 256 0 0 [0, 0, 0, 0, 0, 0, 0, 0] 0 0 0 0 0 0 0 0, .defineGroup 0 256 0 [0, 0, 0, 0, 0, 0, 0, 0] 0 0 0 0 0 0 0 0,
      .defineGroup 0 0 256 [0, 0, 0, 0, 0, 0, 0, 0] 0 0 0 0 0 0 0 0, .defineGroup 0 0 0 [0, 0, 0, 0, 0, 0, 0] 0 0 0 0 0 0 0 0,
      .defineGroup 0 0 0 [0, 0, 0, 0, 0, 0, 0, 256] 0 0 0 0 0 0 0 0, .defineGroup 0 0 0 [0, 0, 0, 0, 0, 0, 0, 0] 256 0 0 0 0 0 0 0,
      .defineGroup 0 0 0 [0, 0, 0, 0, 0, 0, 0, 0] 0 4294967296 0 0 0 0 0 0,
      .defineGroup 0 0 0 [0, 0, 0, 0, 0, 0, 0, 0] 0 0 256 0 0 0 0 0, .defineGroup 0 0 0 [0, 0, 0, 0, 0, 0, 0, 0] 0 0 0 256 0 0 0 0,
      .defineGroup 0 0 0 [0, 0, 0, 0, 0, 0, 0, 0] 0 0 0 0 256 0 0 0, .defineGroup 0 0 0 [0, 0, 0, 0, 0, 0, 0, 0] 0 0 0 0 0 256 0 0,
      .defineGroup 0 0 0 [0, 0, 0, 0, 0, 0, 0, 0] 0 0 0 0 0 0 256 0, .defineGroup 0 0 0 [0, 0, 0, 0, 0, 0, 0, 0] 0 0 0 0 0 0 0 256,
      .readGroup 256, .deleteGroup 256, .setStation 256 0 0 0 0 0 0 0, .setStation 0 256 0 0 0 0 0 0,
      .setStation 0 0 4294967296 0 0 0 0 0, .setStation 0 0 0 256 0 0 0 0, .setStation 0 0 0 0 256 0 0 0,
      .setStation 0 0 0 0 0 65536 0 0, .setStation 0 0 0 0 0 0 256 0, .setStation 0 0 0 0 0 0 0 65536,
      .readStation 256, .verdict 256 0, .verdict 0 256, .hold 256, .resume 256, .clearFault 256, .resetStation 256,
      .readCapture 256 0, .readCapture 0 65536].all fun c => !Instr.wf c) = true := by decide

theorem test_wf_swap_notice_and_frame :
    ([.mount 256 0, .mount 0 256, .dismount 256, .confirmSwap 256 0, .confirmSwap 0 256, .cancelSwap 256, .swapNow 256,
      .setAttention 256 0 0, .setAttention 0 256 0, .setAttention 0 0 256, .requestFrame [],
      .requestFrame [0xD4, 15, 0, 0x30, 0, 0], .requestFrame [0xD5, 15, 1, 0x30, 0, 0],
      .requestFrame [0xD5, 15, 241, 0x30, 0, 0]].all fun c => !Instr.wf c) = true := by decide

/-! ### The link (R165 to R173) -/

/-- The check value of R167's CRC over the nine characters of "123456789". -/
theorem test_crc_check_value : crc16 [0x31, 0x32, 0x33, 0x34, 0x35, 0x36, 0x37, 0x38, 0x39] = 0x29B1#16 := by decide +kernel

/-- FETCH_NOTICE to node 15, built by hand from Table 10-1: lead byte, node, length 0, code 0x30, CRC. -/
theorem test_fetch_frame_is_taken :
    result (after (.requestFrame (sealed [15, 0, 0x30])) cell) = some .empty ∧
    isWholeFrame (sealed [15, 0, 0x30]) = true := by decide +kernel

theorem witness_FramesAreCheckedFirst :
    (after (.requestFrame [0xD5, 15, 0, 0x30, 0, 0]) cell).link.state = .hunt ∧
    (after (.requestFrame (sealed [14, 0, 0x30])) cell).link.state = .hunt ∧
    result (after (.requestFrame (sealed [15, 0, 0x2A])) cell) = some .unknownRequest ∧
    result (after (.requestFrame (sealed [15, 1, 0x30, 0])) cell) = some .badLength ∧
    isWholeFrame [0xD5, 15, 0, 0x30, 0, 0] = true ∧ isWholeFrame (sealed [15, 1, 0x30, 0]) = true := by decide +kernel

theorem witness_RequestBodiesRoundTrip :
    Instr.wf (.renewTool 255 65535) = true ∧ encodeRequest (.renewTool 255 65535) = some (0x05, [255, 255, 255]) := by decide

theorem witness_WholeFrameIsItsRequest :
    cell.powered = true ∧ cell.link.state = .hunt ∧ cell.link.address = 15 ∧
    encodeFrame 15 (.hold 0) = some (sealed [15, 1, 0x26, 0]) ∧
    after (.requestFrame (sealed [15, 1, 0x26, 0])) cell = after (.hold 0) cell := by decide +kernel

theorem witness_PortAssemblesAndAnswers :
    (after (.receivedCharacter 0xD5 false) cell).link.state = .assemble ∧
    (after (.receivedCharacter 0xD5 true) cell).link.state = .hunt ∧
    (after .gapTimeout (after (.receivedCharacter 0xD5 false) cell)).link.state = .hunt ∧
    (after .replyComplete (after (.hold 0) cell)).link.state = .hunt := by decide

/-- A port that holds a lead byte and a node takes a length byte of 240 and drops the frame on one of 241. -/
theorem test_receivedCharacter_length :
    (after (.receivedCharacter 240 false)
      (cell.withLink { cell.link with state := .assemble, buffer := [0xD5, 15] })).link.state = .assemble ∧
    (after (.receivedCharacter 241 false)
      (cell.withLink { cell.link with state := .assemble, buffer := [0xD5, 15] })).link.state = .hunt := by decide

/-- The gap of a partial frame is 5 ms: the fifth millisecond discards it. -/
theorem witness_IdleMillisecondPasses :
    cell.pending = [] ∧ ordered.pending = [] ∧
    (tick (cell.withLink { cell.link with state := .assemble, gap := 3 })).link.state = .assemble ∧
    (tick (cell.withLink { cell.link with state := .assemble, gap := 4 })).link.state = .hunt ∧
    (tick (cell.withClock 4294967295)).clock = 0 ∧ ((tick ordered).position 0).timer = 9999 ∧
    ((tick (ordered.setPosition 0 ⟨.ordered, 1, 2, 1⟩)).position 0).state = .timedOut ∧
    (tick ordered).notices = ordered.notices ∧
    ((tick ((ordered.setPosition 0 ⟨.ordered, 1, 2, 1⟩).setPosition 3 ⟨.ordered, 5, 128, 0⟩)).notices.urgent.map fun n =>
      (n.posKind, n.tool, n.time)) = [(some .wheel, 1, 1), (some .dresser, 5, 1)] ∧
    tick (cell.withPowered false) = cell.withPowered false := by decide

theorem witness_SupervisorResetWaitsForItsReply :
    (after .resetSupervisor cell).link.state = .reply ∧ (after .resetSupervisor cell).link.resetPending = true ∧
    ((after .replyComplete (after .resetSupervisor cell)).flag 0).startup = true ∧
    tableWf (after .resetSupervisor cell).tools = true ∧ (cell.tool? 1).map (fun t => t.placement) = some (.mounted 0) ∧
    (after .replyComplete (after .resetSupervisor cell)).position 0 = ⟨.serving, 1, 0, 0⟩ ∧
    (after .replyComplete (after .resetSupervisor cell)).position 2 = ⟨.empty, 0, 0, 0⟩ := by decide

theorem witness_FrontCommandIsExecuted : (cell.withPending [.hold 0]).pending = .hold 0 :: [] := rfl

theorem witness_EveryCommandAnswersAndKeepsQueue :
    (cell.withPowered false).powered = false ∧
    after (.hold 0) (cell.withPowered false) = cell.withPowered false := by decide

/-! ### Power -/

theorem witness_PowerOnStartsEveryBlock :
    tableWf ordered.tools = true ∧ ordered.tool? 2 = some (tool .wheel 1 (.reserved 0) .sound 0) ∧
    (after (.powerOn ⟨.closed, .opened, .opened, .closed, .closed, .opened⟩) ordered).tool? 2 =
      some (tool .wheel 1 .store .sound 0) ∧
    (after (.powerOn ⟨.closed, .opened, .opened, .closed, .closed, .opened⟩) ordered).link.address = 9 ∧
    (after (.powerOn ⟨.closed, .opened, .opened, .closed, .closed, .opened⟩) ordered).link.rate = .baud115200 ∧
    ((after (.powerOn ⟨.closed, .opened, .opened, .closed, .closed, .opened⟩) ordered).position 0).state = .serving := by
  decide

/-- A power failure in the middle of WITHDRAW_TOOL, of a dress end, of SET_STATION and of CLEAR_TABLES. -/
theorem witness_PowerFailUndoesUnfinishedCommits :
    (after (.withdrawTool 2) cell).journal = [.tool 2 (cell.tool? 2)] :: [] ∧
    (after (.powerFail 1) (after (.withdrawTool 2) cell)).tools = cell.tools ∧
    (after (.powerFail 0) (after (.withdrawTool 2) cell)).tools = (after (.withdrawTool 2) cell).tools ∧
    (after (.sample 0 0 0 (lines false false)) (dressing true)).journal =
      [.tool 5 ((dressing true).tool? 5)] :: [.tool 1 ((dressing true).tool? 1)] :: [] ∧
    (after (.setStation 1 1 9 9 9 900 0 90) cell).journal = [.config 1 StationConfig.delivered] :: [] ∧
    (after .clearTables State.reset).journal = [.tables [] []] :: [] := by decide

/-- The commits of a reservation, a swap, a group request and a release stand in the journal, with what they overwrote. -/
theorem witness_PowerFailUndoesUnfinishedCommits_commits :
    (cell.selection 0).journal = [[.tool 2 (cell.tool? 2), .group 1 (cell.group? 1)]] ∧
    (after (.confirmSwap 0 2) ordered).journal.getLast? =
      some [.tool 1 (ordered.tool? 1), .tool 2 (ordered.tool? 2), .tool 2 (ordered.tool? 2)] ∧
    (after (.deleteGroup 1) cell).journal = [[.group 1 (cell.group? 1), .tool 1 (cell.tool? 1), .tool 2 (cell.tool? 2)]] ∧
    (after (.defineGroup 1 0 1 [1, 0, 0, 0, 0, 0, 0, 0] 0 0 0 0 0 0 0 0) cell).journal =
      [[.group 1 (cell.group? 1), .tool 2 (cell.tool? 2), .tool 1 (cell.tool? 1)]] ∧
    (after (.powerFail 1) (after (.confirmSwap 0 2) ordered)).tools = ordered.tools ∧
    tablesOk (after (.withdrawTool 2) cell) := by
  refine ⟨by decide, by decide, by decide, by decide, by decide, by decide, by decide, ?_⟩
  have h : (after (.withdrawTool 2) cell).journal = [[.tool 2 (cell.tool? 2)]] := by decide
  intro c hc w hw
  rw [h] at hc
  simp only [List.mem_singleton] at hc
  subst hc
  simp only [List.mem_singleton] at hw
  subst hw
  simp [cell_tool, RetainedWrite.ok]

/-! ### The station monitor -/

/-- A pass that runs on: the first sample past the blanking counts, and both checks and the energy take it; the AE run
reaches N at its second code, and the power channel its stale window at the 200th repeat. -/
theorem witness_SampleKeepsToItsStation_running :
    ((passing false).monitor 0).primed = true ∧ ((passing false).monitor 0).op = some latched ∧
    ((passing false).monitor 0).differing = Lines.low ∧ ((passing false).monitor 0).power = ⟨none, 0, false⟩ ∧
    latched.check = some ⟨3000, 2⟩ ∧ ((passing false).monitor 0).blanking = 0 ∧
    ((after (.sample 0 70 3001 (lines true false)) (passing false)).monitor 0).burstCounter = 1 ∧
    ((after (.sample 0 70 3001 (lines true false)) (passing false)).monitor 0).energy = 5070 ∧
    ((after (.sample 0 70 3001 (lines true false)) (passing false)).monitor 0).power = ⟨some 70, 0, false⟩ ∧
    ((after (.sample 0 70 3000 (lines true false)) (passing false)).monitor 0).burstCounter = 0 ∧
    ((after (.sample 0 9 1 (lines true false)) (stuckAt 199 2)).monitor 0).power = ⟨none, 0, true⟩ ∧
    ((after (.sample 0 9 1 (lines true false)) (stuckAt 198 2)).monitor 0).power = ⟨some 9, 199, false⟩ := by decide

/-- The second AE code above the threshold reaches N: the wheel of the group's CONDEMN breaks, its position is ordered, and the
trigger is this sample's place in the ring. At the 200th repeat of a power code SENSOR is set with an urgent notice. -/
theorem witness_SampleKeepsToItsStation_detects :
    (let s := (passing false).setMonitor 0 { (passing false).monitor 0 with burstCounter := 1, runPeak := 3400 }
     let t := after (.sample 0 70 3001 (lines true false)) s
     (s.monitor 0).ae = ⟨none, 0, false⟩ ∧ (t.monitor 0).burstDone = true ∧ (t.monitor 0).burstCounter = 0 ∧
     (t.tool? 1).map (fun x => (x.condition, x.tallies.burst)) = some (.broken, 1) ∧
     (t.incident 0).cls = some .burst ∧ (t.incident 0).value = 3400 ∧ (t.incident 0).passClass = some 0 ∧
     t.position 0 = ⟨.ordered, 1, 2, 10000⟩ ∧ t.notices.urgent.map (fun n => n.kind) = [.incident, .swapOrder] ∧
     t.capture 0 = ⟨[(70, 3001)], 1, .filling, some 0, 0⟩ ∧ t.journal.getLast? = some [.tool 1 (s.tool? 1)]) ∧
    (let t := after (.sample 0 9 1 (lines true false)) (stuckAt 199 2)
     (t.flag 0).sensor = true ∧ t.notices.urgent.map (fun n => (n.kind, n.detailA, n.detailB)) = [(.sensorFault, 9, 0)]) := by
  decide

theorem witness_SampleKeepsToItsStation :
    cell.powered = true ∧ (cell.monitor 1).state = .off ∧ (1 : Fin 6) ≠ 0 ∧
    (after (.sample 1 5 5 (lines true true)) cell).withJournal [] = cell.withJournal [] := by decide

theorem witness_LinesFilterOverTwoSamples :
    cell.powered = true ∧ (cell.monitor 0).state ≠ .off ∧ (cell.monitor 0).primed = true ∧ (cell.monitor 0).differing = Lines.low := by decide

/-- The cell with its monitor in a state that waits for both lines to be LOW, the filter primed or not. -/
def waitingLow (state : MonitorState) (primed : Bool) (filtered : Lines) : State :=
  cell.setMonitor 0 { cell.monitor 0 with state := state, primed := primed, filtered := filtered }

/-- The starting sample sets the levels, and both LOW take the monitor to IDLE. -/
theorem witness_LinesFilterOverTwoSamples_start :
    ((waitingLow .settling false Lines.low).monitor 0).state = .settling ∧
    ((waitingLow .settling false Lines.low).monitor 0).primed = false ∧
    ((after (.sample 0 1 1 (lines true false)) (waitingLow .settling false Lines.low)).monitor 0).filtered = lines true false ∧
    ((after (.sample 0 1 1 (lines true false)) (waitingLow .settling false Lines.low)).monitor 0).state = .settling ∧
    ((after (.sample 0 1 1 Lines.low) (waitingLow .settling false Lines.low)).monitor 0).state = .idle := by decide

/-- SETTLING and CONFLICT stay while a line is HIGH and go to IDLE with both LOW. -/
theorem witness_LinesBothHighDiscardOperation_leave :
    [MonitorState.settling, .conflict].all (fun x =>
      decide (((waitingLow x true (lines true false)).monitor 0).state = x) &&
      decide (((after (.sample 0 1 1 (lines true false)) (waitingLow x true (lines true false))).monitor 0).state = x) &&
      decide (((after (.sample 0 1 1 Lines.low) (waitingLow x true Lines.low)).monitor 0).state = .idle)) = true := by decide

/-- The premises of an operation start: idle and primed, PASS, DRESS and PART_END filtered LOW, PART_END not rising. -/
theorem witness_OperationStartLatches_premises :
    [rising true false false, rising false true false].all (fun s =>
      s.powered && decide ((s.monitor 0).state = .idle) && (s.monitor 0).primed && !(s.monitor 0).filtered.pass &&
      !(s.monitor 0).filtered.dress && !(s.monitor 0).filtered.partEnd && !(s.monitor 0).differing.partEnd) = true ∧
    ((rising true false false).monitor 0).differing.pass = true ∧
    ((rising false true false).monitor 0).differing.dress = true := by decide

/-- A rise of PASS at the second HIGH sample starts a pass, a rise of DRESS a dress; the rise sample is the first. -/
theorem witness_OperationStartLatches :
    ((after (.sample 0 77 5 (lines true false)) (rising true false false)).monitor 0).op = some latched ∧
    ((after (.sample 0 77 5 (lines true false)) (rising true false false)).monitor 0).energy = 77 ∧
    ((after (.sample 0 77 5 (lines false true)) (rising false true false)).monitor 0).op = some latchedDress := by decide

/-- An old run and an old power-fault mark do not live on in a new operation. -/
theorem witness_OperationStartLatches_anew :
    (let s := (rising true false false).setMonitor 0
       { (rising true false false).monitor 0 with powerFaultMark := true, burstCounter := 1, runPeak := 9, burstDone := true }
     let m := (after (.sample 0 77 5 (lines true false)) s).monitor 0
     0 < (s.config 0).blank ∧ m.powerFaultMark = false ∧ m.burstCounter = 0 ∧ m.runPeak = 0 ∧ m.burstDone = false) := by decide

theorem witness_BothLinesRiseTogether :
    (rising true true false).powered = true ∧ ((rising true true false).monitor 0).state = .idle ∧
    ((rising true true false).monitor 0).primed = true ∧ ((rising true true false).monitor 0).filtered = Lines.low ∧
    ((rising true true false).monitor 0).differing = lines true true ∧
    ((after (.sample 0 77 5 (lines true true)) (rising true true false)).monitor 0).state = .conflict := by decide

/-- The passing cell with DRESS about to rise, and the dressing cell with PASS about to rise. -/
def clashing : OpKind → State
  | .pass => (passing false).setMonitor 0 { (passing false).monitor 0 with differing := lines false true }
  | .dress => (dressing false).setMonitor 0 { (dressing false).monitor 0 with differing := lines true false }

theorem witness_LinesBothHighDiscardOperation :
    (clashing .pass).powered = true ∧ ((clashing .pass).monitor 0).primed = true ∧
    ((clashing .pass).monitor 0).op = some latched ∧ latched.kind = .pass ∧ ((clashing .pass).monitor 0).state = .pass ∧
    ((clashing .pass).monitor 0).filtered = lines true false ∧ ((clashing .pass).monitor 0).differing = lines false true ∧
    ((after (.sample 0 1 1 (lines true true)) (clashing .pass)).monitor 0).state = .conflict ∧
    ((clashing .dress).monitor 0).op = some latchedDress ∧ latchedDress.kind = .dress ∧
    ((clashing .dress).monitor 0).filtered = lines false true ∧ ((clashing .dress).monitor 0).differing = lines true false ∧
    ((after (.sample 0 1 1 (lines true true)) (clashing .dress)).monitor 0).state = .conflict := by decide

/-- A part end in IDLE finds a DUE and a RUN_ON position. -/
theorem witness_PartEndSelectsAndRescans :
    (rising false false true).powered = true ∧ ((rising false false true).monitor 0).state = .idle ∧
    ((rising false false true).monitor 0).primed = true ∧ ((rising false false true).monitor 0).filtered = Lines.low ∧
    ((rising false false true).monitor 0).differing = ⟨false, false, true, false, false⟩ ∧
    (after (.sample 0 1 1 ⟨false, false, true, false, false⟩) ((rising false false true).setPosition 0 ⟨.due, 1, 0, 0⟩)).position
      0 = ⟨.ordered, 1, 2, 10000⟩ ∧
    (after (.sample 0 1 1 ⟨false, false, true, false, false⟩) ((rising false false true).setPosition 0
      ⟨.runOn, 1, 0, 0⟩)).position 0 = ⟨.ordered, 1, 2, 10000⟩ := by decide

/-- The cell in a pass of the given latched record, with PART_END about to rise. -/
def parting (l : Latched) : State :=
  cell.setMonitor 0
    { (passing false).monitor 0 with differing := ⟨false, false, true, false, false⟩, op := some l }

/-- A part end in PASS ends the pass, which is charged, and leaves the monitor in SETTLING; the wheel that the pass made
SPENT is ordered at the same part end. -/
theorem witness_PartEndSelectsAndRescans_in_pass :
    ((parting latched).monitor 0).state = .pass ∧ ((parting latched).monitor 0).filtered = lines true false ∧
    ((after (.sample 0 1 1 ⟨true, false, true, false, false⟩) (parting latched)).monitor 0).state = .settling ∧
    (after (.sample 0 1 1 ⟨true, false, true, false, false⟩)
      ((parting latched).setTool 1 (tool .wheel 1 (.mounted 0) .warned 102399))).position 0 = ⟨.ordered, 1, 2, 10000⟩ := by
  decide

/-! ### Passes and dresses -/

/-- The bounds of R50's table are inclusive for GOOD: at a reference of 1,024 the ratio is the energy. -/
theorem witness_PassArithmetic :
    passOutcome false 614 1 ⟨.learned, 4, 4096, 1024⟩ 614 1638 = .good ∧
    passOutcome false 613 1 ⟨.learned, 4, 4096, 1024⟩ 614 1638 = .underload ∧
    passOutcome false 1638 1 ⟨.learned, 4, 4096, 1024⟩ 614 1638 = .good ∧
    passOutcome false 1639 1 ⟨.learned, 4, 4096, 1024⟩ 614 1638 = .overload ∧
    passOutcome false 9 10 ⟨.learned, 4, 4096, 1024⟩ 614 1638 = .air ∧
    passOutcome false 10 10 ⟨.learning, 3, 30, 0⟩ 614 1638 = .learning ∧
    passOutcome true 0 10 ⟨.learned, 4, 4096, 1024⟩ 614 1638 = .unjudged ∧
    passWeight .good 255 = some 256 ∧ passWeight .overload 4097 = some 4096 ∧
    (ClassRef.learn ⟨.learning, 3, 30, 0⟩ 11 4).value = 10 ∧ (ClassRef.learn ⟨.learning, 2, 30, 0⟩ 11 4).state = .learning ∧
    (ClassRef.smooth ⟨.learned, 4, 4096, 1024⟩ 1009 4).value = 1024 ∧
    (ClassRef.smooth ⟨.learned, 4, 4096, 1024⟩ 1008 4).value = 1023 := by decide

theorem witness_PassEndChargesTheWheel :
    (passing true).powered = true ∧ ((passing true).monitor 0).state = .pass ∧ ((passing true).monitor 0).primed = true ∧
    ((passing true).monitor 0).op = some latched ∧ latched.kind = .pass ∧ latched.wheel ≠ 0 ∧ latched.void = false ∧
    latched.judge = some ⟨4, 4, 614, 1638⟩ ∧ latched.passClass = some 0 ∧
    (passing true).tool? latched.wheel = some (tool .wheel 1 (.mounted 0) .sound 0) ∧
    ((passing true).monitor 0).filtered = lines true false ∧ ((passing true).monitor 0).differing = lines true false ∧
    ((after (.sample 0 9 9 (lines false false)) (passing true)).tool? 1).map (fun t => (t.used, t.refs[0])) =
      some (1024, ⟨.learning, 1, 5000, 0⟩) := by decide

/-- The pass of a part end charges too; an AIR pass at the limit is a CONTACT_LOSS; the last learning pass is LEARNED. -/
theorem witness_PassEndChargesTheWheel_part_end_and_detection :
    (after (.sample 0 9 9 ⟨true, false, true, false, false⟩) (parting latched)).journal =
      [[.tool 1 (some (tool .wheel 1 (.mounted 0) .sound 0))]] ∧
    ((after (.sample 0 9 9 ⟨true, false, true, false, false⟩) (parting latched)).tool? 1).map (fun t => t.used) = some 1024 ∧
    ((after (.sample 0 9 9 Lines.low)
      ((passing true).setMonitor 0 { (passing true).monitor 0 with energy := 1999, air := 2 })).tool? 1).map
        (fun t => t.tallies) = some ⟨0, 0, 0, 1⟩ ∧
    ((after (.sample 0 9 9 Lines.low)
      ((passing true).setMonitor 0
        { (passing true).monitor 0 with op := some { latched with judge := some ⟨1, 4, 614, 1638⟩ } })).notices.routine.map
        fun n => (n.kind, n.detailA, n.detailB)) = [(.learned, 5000, 0)] := by decide

/-- A pass that takes the wheel to the end of its life puts its SERVING position DUE, with a SPENT notice. -/
theorem witness_PassEndChargesTheWheel_spent :
    (let s := (passing true).setTool 1 (tool .wheel 1 (.mounted 0) .warned 102399)
     let t := after (.sample 0 9 9 Lines.low) s
     (s.position 0).state = .serving ∧ (t.tool? 1).map (fun x => (x.condition, x.used)) = some (.spent, 103423) ∧
     t.position 0 = ⟨.due, 1, 0, 0⟩ ∧ t.notices.routine.map (fun n => (n.kind, n.detailA, n.detailB)) = [(.spent, 103423, 0)]) := by
  decide

theorem witness_DressEndChargesBothTools :
    (dressing true).powered = true ∧ ((dressing true).monitor 0).state = .dress ∧ ((dressing true).monitor 0).primed = true ∧
    ((dressing true).monitor 0).op = some latchedDress ∧ latchedDress.kind = .dress ∧ latchedDress.dresser ≠ 0 ∧
    latchedDress.void = false ∧ latchedDress.nominal = some 5 ∧ latchedDress.depth = some 5 ∧ latchedDress.wheel = 1 ∧
    (dressing true).tool? latchedDress.dresser = some (tool .dresser 0 (.mounted 1) .sound 0) ∧
    ((dressing true).monitor 0).filtered = lines false true ∧ ((dressing true).monitor 0).differing = lines false true ∧
    ((after (.sample 0 9 9 (lines false false)) (dressing true)).tool? 1).map (fun t => (t.stock, t.dressCount)) =
      some (995, 1) ∧
    ((after (.sample 0 9 9 (lines false false)) (dressing true)).tool? 5).map (fun t => (t.used, t.dressCount)) =
      some (1024, 1) := by decide

/-- A dress that takes the dresser to its last stroke puts position 1 DUE, and one that takes the wheel's stock position 0. -/
theorem witness_DressEndChargesBothTools_spent :
    (let t := after (.sample 0 9 9 Lines.low) ((dressing true).setTool 5 (tool .dresser 0 (.mounted 1) .warned 102399))
     (t.tool? 5).map (fun x => x.condition) = some .spent ∧ (t.position 1).state = .due ∧
     (t.position 0).state = .serving ∧ t.notices.routine.map (fun n => (n.kind, n.tool)) = [(.spent, 5)]) ∧
    (let t := after (.sample 0 9 9 Lines.low)
       ((dressing true).setTool 1 { tool .wheel 1 (.mounted 0) .sound 0 with stock := 4 })
     (t.tool? 1).map (fun x => x.condition) = some .spent ∧ (t.position 0).state = .due ∧
     (t.position 1).state = .serving ∧ t.notices.routine.map (fun n => (n.kind, n.tool, n.detailB)) = [(.spent, 1, 1)]) := by
  decide

/-- A void pass and an ignored pass end without a charge. -/
theorem witness_DressEndChargesBothTools_void :
    [{ latched with void := true }, { latched with wheel := 0 }].all (fun l =>
      let s := (passing true).setMonitor 0 { (passing true).monitor 0 with op := some l }
      decide ((s.monitor 0).op = some l) && decide ((after (.sample 0 9 9 Lines.low) s).tools = s.tools) &&
      decide (((after (.sample 0 9 9 Lines.low) s).monitor 0).state = .idle)) = true := by decide

/-! ### Detections, faults and captures -/

/-- The station of the passing cell with its burst counter at N, 2. -/
def bursting : State :=
  (passing false).setMonitor 0 { (passing false).monitor 0 with burstCounter := 2, runPeak := 3400 }

/-- CONDEMN books the break: the wheel is BROKEN, its position ORDERED; an open incident counts a repeat instead. -/
theorem witness_BurstIsAnswered :
    (bursting.monitor 0).op = some latched ∧ (bursting.monitor 0).state = .pass ∧ latched.wheel ≠ 0 ∧
    latched.check = some ⟨3000, 2⟩ ∧ (bursting.monitor 0).burstCounter = 2 ∧ (bursting.monitor 0).burstDone = false ∧
    (bursting.monitor 0).ae.fault = false ∧ ((passing false).monitor 0).burstCounter = 0 ∧
    (after (.burst 0) bursting).notices.urgent.map (fun n => n.kind) = [.incident, .swapOrder] ∧
    ((after (.burst 0) bursting).tool? 1).map (fun t => (t.condition, t.tallies.burst)) = some (.broken, 1) ∧
    ((after (.burst 0) bursting).position 0).state = .ordered ∧
    ((after (.burst 0) (bursting.setIncident 0 (incident.incident 0))).incident 0).repeats = 1 ∧
    ((after (.burst 0) (bursting.modifyGroup 1 fun g =>
      { g with responses := ⟨.report, .report, .report, .report⟩ })).notices.routine.length = 1) ∧
    ((after (.burst 0) (bursting.modifyGroup 1 fun g =>
      { g with responses := ⟨.ignore, .ignore, .ignore, .ignore⟩ })).notices = bursting.notices) ∧
    ((after (.burst 0) (bursting.modifyGroup 1 fun g => { g with responses := ⟨.suspend, .ignore, .ignore, .ignore⟩ })).incident
      0).isOpen = true := by decide

/-- The bare latch waits for the window, and for a sample of the operation past the blanked one. -/
theorem witness_ChannelFaultLatches :
    latched.wheel ≠ 0 ∧ latched.blank = 1 ∧ latched.staleWindow = 200 ∧ ((stuckAt 200 2).monitor 0).op = some latched ∧
    ((stuckAt 200 2).monitor 0).state = .pass ∧ ((stuckAt 200 2).monitor 0).power = ⟨some 9, 200, false⟩ ∧
    ((after (.channelFaultLatch 0 .power) (stuckAt 200 2)).flag 0).sensor = true ∧
    (after (.channelFaultLatch 0 .power) (stuckAt 200 1)).monitors = (stuckAt 200 1).monitors ∧
    (after (.channelFaultLatch 0 .power) (stuckAt 199 2)).monitors = (stuckAt 199 2).monitors := by decide

theorem witness_CaptureFreezesOnItsTrigger :
    ((after (.captureFreeze 0) (cell.setCapture 0 ⟨[(1, 2)], 1, .filling, some 0, 256⟩)).capture 0).state = .frozen ∧
    ((after (.captureFreeze 0) (cell.setCapture 0 ⟨[(1, 2)], 1, .filling, some 0, 255⟩)).capture 0).state = .filling ∧
    (Capture.mk [(1, 2)] 1 .filling (some 0) 0).next = (0 + 1) % 1024 ∧ (List.replicate 256 ((5, 6) : Code × Code)).length = 256 := by
  decide +kernel

theorem witness_SwapTimerExpires :
    ((after (.swapTimerExpiry 0) ordered).position 0) = ⟨.timedOut, 1, 2, 0⟩ ∧
    (after (.swapTimerExpiry 11) ordered).positions = ordered.positions := by decide

/-! ### Tools and tables -/

theorem witness_DefineToolMakesTheRecord :
    answers cell
      [(.defineTool 0 0 0 9 0 0 0 0 0 0 0 9 0 0, .badValue), (.defineTool 129 0 0 9 0 0 0 0 0 0 0 9 0 0, .badValue),
        (.defineTool 3 2 0 9 0 0 0 0 0 0 0 9 0 0, .badValue), (.defineTool 1 1 0 9 0 0 0 0 0 0 0 9 0 0, .alreadyDefined),
        (.defineTool 127 1 0 4000000 0 4095 64 16 8 1023 8191 65535 0 200, .ok),
        (.defineTool 3 0 0 0 0 0 0 0 0 0 0 20000 0 0, .adjusted), (.defineTool 3 0 0 1 0 0 0 0 0 127 0 0 0 0, .adjusted)] =
      true := by decide

theorem test_defineTool_short_of_stock :
    ((after (.defineTool 3 0 8 1 0 0 0 0 0 0 0 4 0 0) cell).tool? 3).map (fun t => (t.condition, t.dressDepth, t.warnPercent)) =
      some (.spent, 5, 90) := by decide

theorem witness_AdjustToolWritesNamedFields :
    answers cell
      [(.adjustTool 0 1 0 0 0 0 0 0 0 0 0 0, .badValue), (.adjustTool 1 1024 0 0 0 0 0 0 0 0 0 0, .badValue),
        (.adjustTool 3 1 0 0 0 0 0 0 0 0 0 0, .notDefined), (.adjustTool 128 0 9 9 9 9 9 9 9 9 9 9, .ok),
        (.adjustTool 1 1023 1 4000000 99 1 1 1 1 128 1025 200, .ok), (.adjustTool 1 512 0 0 0 0 0 0 0 0 0 201, .adjusted)] =
      true ∧
    answers ordered [(.adjustTool 2 1 0 0 0 0 0 0 0 0 0 0, .busy)] = true := by decide

/-- A limit raised above the used count puts a SPENT wheel's DUE position back to SERVING; one lowered to it does the reverse. -/
theorem test_adjustTool_moves_the_position :
    ((after (.adjustTool 1 2 0 200 0 0 0 0 0 0 0 0)
      ((cellAt .due).setTool 1 (tool .wheel 1 (.mounted 0) .spent 102400))).position 0).state = .serving ∧
    ((after (.adjustTool 1 2 0 50 0 0 0 0 0 0 0 0)
      (cell.setTool 1 (tool .wheel 1 (.mounted 0) .sound 51200))).position 0).state = .due := by decide

theorem witness_ReadToolReturnsTheRecord :
    answers cell [(.readTool 0, .badValue), (.readTool 129, .badValue), (.readTool 3, .notDefined), (.readTool 128, .ok)] =
      true ∧
    (body (after (.readTool 1) cell)).take 13 = [1, 0, 2, 188, 1, 2, 0, 0, 0, 0, 0, 100, 90] := by decide

theorem witness_DeleteToolMakesItUndefined :
    tableWf cell.tools = true ∧
    answers cell
      [(.deleteTool 0, .badValue), (.deleteTool 129, .badValue), (.deleteTool 3, .notDefined), (.deleteTool 1, .busy),
        (.deleteTool 2, .conflict), (.deleteTool 128, .ok)] = true ∧
    (after (.deleteTool 128) cell).tool? 128 = none := by decide

theorem witness_RenewToolStartsItsLifeAgain :
    answers cell
      [(.renewTool 0 9, .badValue), (.renewTool 129 9, .badValue), (.renewTool 3 9, .notDefined), (.renewTool 1 9, .busy),
        (.renewTool 128 20000, .ok), (.renewTool 128 20001, .adjusted)] = true ∧
    ((after (.renewTool 128 4) cell).tool? 128).map (fun t => t.condition) = some .spent := by decide

/-- The stored wheel of the RENEW_TOOL witness is in range, as that statement's premise asks. -/
theorem witness_RenewToolStartsItsLifeAgain_inRange : ∀ x, cell.tool? 128 = some x → x.inRange := by
  intro x hx
  simp [State.tool?, cell, tableGet] at hx
  subst hx
  exact tool_inRange _ _ _ (by decide)

theorem witness_WithdrawAndReinstateTool :
    answers cell
      [(.withdrawTool 0, .badValue), (.withdrawTool 129, .badValue), (.withdrawTool 3, .notDefined), (.withdrawTool 1, .busy),
        (.withdrawTool 128, .ok), (.reinstateTool 0, .badValue), (.reinstateTool 3, .notDefined), (.reinstateTool 1, .busy),
        (.reinstateTool 128, .wrongState)] = true ∧
    ((after (.reinstateTool 2) (cell.setTool 2 (tool .wheel 1 .store .broken 102400))).tool? 2).map (fun t => t.condition) =
      some .spent := by decide

theorem witness_ClearReferenceUnlearns :
    answers ordered
      [(.clearReference 0 0, .badValue), (.clearReference 129 0, .badValue), (.clearReference 1 4, .badValue),
        (.clearReference 1 254, .badValue), (.clearReference 3 0, .notDefined), (.clearReference 2 3, .ok),
        (.clearReference 1 255, .ok)] = true := by decide

theorem witness_ClearTablesEmptiesBoth :
    answers cell [(.clearTables, .busy)] = true ∧
    answers (cell.withTools [(2, tool .wheel 1 .store .sound 0)]) [(.clearTables, .ok)] = true := by decide

/-! ### Groups and selection -/

theorem witness_DefineGroupWritesTheGroup :
    answers cell
      [(.defineGroup 0 0 1 [128, 0, 0, 0, 0, 0, 0, 0] 0 0 0 0 0 0 0 0, .badValue),
        (.defineGroup 33 0 1 [128, 0, 0, 0, 0, 0, 0, 0] 0 0 0 0 0 0 0 0, .badValue),
        (.defineGroup 2 0 9 [128, 0, 0, 0, 0, 0, 0, 0] 0 0 0 0 0 0 0 0, .badValue),
        (.defineGroup 2 0 2 [128, 128, 0, 0, 0, 0, 0, 0] 0 0 0 0 0 0 0 0, .badValue),
        (.defineGroup 2 0 1 [128, 0, 0, 0, 0, 0, 0, 0] 0 0 0 0 4 0 0 0, .badValue),
        (.defineGroup 2 0 1 [3, 0, 0, 0, 0, 0, 0, 0] 0 0 0 0 0 0 0 0, .notDefined),
        (.defineGroup 2 0 1 [5, 0, 0, 0, 0, 0, 0, 0] 0 0 0 0 0 0 0 0, .wrongKind),
        (.defineGroup 2 0 1 [2, 0, 0, 0, 0, 0, 0, 0] 0 0 0 0 0 0 0 0, .conflict),
        (.defineGroup 32 0 1 [128, 0, 0, 0, 0, 0, 0, 0] 1 100000 1 50 3 3 3 3, .ok),
        (.defineGroup 1 0 1 [1, 0, 0, 0, 0, 0, 0, 0] 0 100001 0 0 0 0 0 0, .adjusted)] = true ∧
    answers ordered [(.defineGroup 1 0 1 [1, 0, 0, 0, 0, 0, 0, 0] 0 0 0 0 0 0 0 0, .busy)] = true := by decide

/-- A wheel that waits ungrouped joins a group with a stored member, and is served at once. -/
theorem test_defineGroup_serves_a_waiting_wheel :
    ((after (.defineGroup 2 0 2 [1, 128, 0, 0, 0, 0, 0, 0] 0 0 0 0 0 0 0 0)
      (((cellAt .waiting).setTool 1 (tool .wheel 0 (.mounted 0) .spent 102400)).withGroups [])).position 0) =
      ⟨.ordered, 1, 128, 10000⟩ := by decide

theorem witness_ReadGroupReturnsTheRecord :
    answers cell [(.readGroup 0, .badValue), (.readGroup 33, .badValue), (.readGroup 32, .notDefined), (.readGroup 1, .ok)] =
      true ∧
    (cell.group? 1).map (fun g => (g.chain.length, g.waiting.length)) = some (2, 0) ∧
    (body (after (.readGroup 1) cell)).take 13 = [1, 0, 2, 1, 2, 0, 0, 0, 0, 0, 0, 0, 0] := by decide

theorem witness_DeleteGroupFreesItsMembers :
    tableWf cell.groups = true ∧
    answers cell [(.deleteGroup 0, .badValue), (.deleteGroup 33, .badValue), (.deleteGroup 32, .notDefined),
      (.deleteGroup 1, .ok)] = true ∧
    answers ordered [(.deleteGroup 1, .busy)] = true := by decide

/-- Under ROTATE the scan starts behind the cursor and visits the head last. -/
theorem witness_ScanChoosesFirstEligible :
    cell.scan ⟨.wheel, [2, 128], .chain, 0, 3, .hold, 0, ⟨.ignore, .ignore, .ignore, .ignore⟩, []⟩ = some 0 ∧
    cell.scan ⟨.wheel, [2, 128], .rotate, 0, 3, .hold, 0, ⟨.ignore, .ignore, .ignore, .ignore⟩, []⟩ = some 1 ∧
    cell.scan ⟨.wheel, [2, 128], .rotate, 0, 101, .hold, 0, ⟨.ignore, .ignore, .ignore, .ignore⟩, []⟩ = none := by decide

theorem witness_SelectionFollowsItsTables :
    cell.tool? (cell.position 0).active = some (tool .wheel 1 (.mounted 0) .sound 0) ∧
    (cell.selection 0).position 0 = ⟨.ordered, 1, 2, 10000⟩ ∧ (cell.selection 1).position 1 = ⟨.waiting, 5, 0, 0⟩ ∧
    ((ordered.selection 0).position 0).state = .waiting := by decide

theorem witness_EligibilityEventServesTheList :
    (((cellAt .waiting).modifyGroup 1 fun g => { g with waiting := [0] }).eligibilityEvent 1).position 0 =
      ⟨.ordered, 1, 2, 10000⟩ ∧
    (((cellAt .waiting).modifyGroup 1 fun g => { g with waiting := [0] }).eligibilityEvent 1).notices.urgent.map (fun n =>
      (n.kind, n.tool, n.detailA)) = [(.swapOrder, 1, 2)] ∧ cell.group? 9 = none ∧ (cell.group? 1).isSome = true := by decide

/-! ### Stations -/

theorem witness_SetStationWritesTheRecord :
    answers cell
      [(.setStation 6 1 9 9 9 900 0 90, .badValue), (.setStation 0 2 9 9 9 900 0 90, .badValue),
        (.setStation 0 1 9 9 9 900 2 90, .badValue), (.setStation 0 0 9 9 9 900 0 90, .busy),
        (.setStation 5 1 1 0 1 200 1 10, .ok), (.setStation 0 1 1048575 255 15 10000 0 3600, .ok),
        (.setStation 5 0 0 0 1 200 1 10, .adjusted)] = true ∧
    ((after (.setStation 5 1 1 0 1 200 1 10) cell).flag 5).startup = true := by decide

theorem witness_ReadStationReturnsTheRecord :
    answers (passing false) [(.readStation 6, .badValue), (.readStation 5, .ok), (.readStation 0, .ok)] = true ∧
    ((body (after (.readStation 0) (passing false))).drop 15).take 4 = [0, 0, 1, 0] := by decide

theorem witness_VerdictClosesTheIncident :
    answers incident
      [(.verdict 6 0, .badValue), (.verdict 0 2, .badValue), (.verdict 5 1, .absent), (.verdict 0 0, .ok),
        (.verdict 0 1, .ok)] = true ∧
    answers cell [(.verdict 0 0, .wrongState)] = true ∧
    answers (incident.setIncident 0 { incident.incident 0 with response := some .condemn })
      [(.verdict 0 0, .wrongState), (.verdict 0 1, .ok)] = true ∧
    ((after (.verdict 0 1) incident).position 0).state = .ordered := by decide

theorem witness_HoldAndClearFault :
    answers cell [(.hold 6, .badValue), (.hold 5, .absent), (.hold 0, .ok), (.clearFault 6, .badValue),
      (.clearFault 5, .absent), (.clearFault 0, .ok)] = true ∧
    (after (.hold 0) cell).holdOutput 0 = true ∧ cell.holdOutput 0 = false := by decide

theorem witness_ResumeSelectsAfterStartup :
    answers cell [(.resume 6, .badValue), (.resume 5, .absent), (.resume 0, .ok)] = true ∧
    ((after (.resume 0) ((cellAt .due).setFlag 0 ⟨true, true, false⟩)).position 0).state = .ordered ∧
    ((after (.resume 0) ((cellAt .due).setFlag 0 ⟨false, true, false⟩)).position 0).state = .due := by decide

theorem witness_ResetStationStartsItAgain :
    answers ordered [(.resetStation 6, .badValue), (.resetStation 5, .absent), (.resetStation 0, .ok)] = true ∧
    tableWf ordered.tools = true ∧ ((after (.resetStation 0) ordered).position 0) = ⟨.serving, 1, 0, 0⟩ ∧
    ((after (.resetStation 0) ordered).tool? 2).map (fun t => t.placement) = some .store := by decide

theorem witness_ReadCaptureReturnsTheRing :
    answers incident [(.readCapture 6 0, .badValue), (.readCapture 5 0, .absent), (.readCapture 0 2, .ok)] = true ∧
    answers cell [(.readCapture 0 0, .notReady)] = true ∧
    (body (after (.readCapture 0 1) incident)).drop 4 = [1, 0, 16, 2] := by decide

/-! ### Swaps -/

theorem witness_MountSeatsTheTool :
    answers (cell.setConfig 5 ⟨true, 2000, 1, 3, 200, .hold, 10⟩)
      [(.mount 12 2, .badValue), (.mount 10 0, .badValue), (.mount 10 129, .badValue), (.mount 9 2, .absent),
        (.mount 10 3, .notDefined), (.mount 0 2, .busy), (.mount 11 2, .wrongKind), (.mount 10 1, .busy),
        (.mount 10 128, .ok)] = true ∧
    answers ((cell.setConfig 5 ⟨true, 2000, 1, 3, 200, .hold, 10⟩).setTool 2 (tool .wheel 1 .store .spent 102400))
      [(.mount 10 2, .wrongState)] = true := by decide

theorem witness_DismountEmptiesThePosition :
    answers cell [(.dismount 12, .badValue), (.dismount 11, .absent), (.dismount 0, .ok)] = true ∧
    answers ordered [(.dismount 0, .busy)] = true ∧
    answers (cell.setPosition 0 Position.vacant) [(.dismount 0, .wrongState)] = true := by decide

theorem witness_ConfirmSwapExchangesTheTools :
    answers ordered
      [(.confirmSwap 12 2, .badValue), (.confirmSwap 0 0, .badValue), (.confirmSwap 0 129, .badValue),
        (.confirmSwap 11 2, .absent), (.confirmSwap 0 128, .wrongTool), (.confirmSwap 1 2, .wrongState),
        (.confirmSwap 0 2, .ok)] = true ∧
    answers (ordered.setPosition 0 ⟨.timedOut, 1, 2, 0⟩) [(.confirmSwap 0 2, .late)] = true ∧
    ((after (.confirmSwap 0 2) ordered).position 0) = ⟨.serving, 2, 0, 0⟩ := by decide

/-- A sister that broke while it was ordered is mounted and goes to selection, which finds the returned wheel. -/
theorem test_confirmSwap_of_a_broken_sister :
    ((after (.confirmSwap 0 2) (ordered.setTool 2 (tool .wheel 1 (.reserved 0) .broken 0))).position 0) =
      ⟨.ordered, 2, 1, 10000⟩ := by decide

theorem witness_CancelSwapHaltsThePosition :
    answers ordered [(.cancelSwap 12, .badValue), (.cancelSwap 11, .absent), (.cancelSwap 1, .wrongState),
      (.cancelSwap 0, .ok)] = true ∧
    ((after (.cancelSwap 0) ordered).position 0) = ⟨.halted, 1, 0, 0⟩ := by decide

theorem witness_SwapNowSelects :
    answers cell [(.swapNow 12, .badValue), (.swapNow 11, .absent), (.swapNow 0, .wrongState)] = true ∧
    ((after (.swapNow 0) (cellAt .halted)).position 0).state = .ordered := by decide

/-! ### Notices -/

/-- A notice for the queue tests. -/
def note (k : NoticeKind) : Notice := ⟨k, some 0, none, 0, 0, 0, 0, 9⟩

/-- The cell with two urgent and one routine notice, and the given consecutive count. -/
def noticed (count : Nat) : State :=
  cell.withNotices ⟨[note .incident, note .noSister], [note .warn], false, true, count, true, true, 1⟩

theorem witness_FetchNoticeTakesTurns :
    (body (after .fetchNotice (noticed 3))).take 5 = [0, 1, 1, 1, 1] ∧
    (body (after .fetchNotice (noticed 4))).take 5 = [1, 2, 0, 0, 6] ∧
    (after .fetchNotice (noticed 4)).notices.routineLost = false ∧ answers cell [(.fetchNotice, .empty)] = true := by decide

theorem witness_SetAttentionTakesTheNextLevel :
    answers cell
      [(.setAttention 2 0 1, .badValue), (.setAttention 0 2 1, .badValue), (.setAttention 1 1 1, .ok), (.setAttention 0 1 8, .ok),
        (.setAttention 0 0 16, .ok), (.setAttention 1 0 32, .ok), (.setAttention 1 1 0, .adjusted),
        (.setAttention 1 1 33, .adjusted)] = true ∧
    (after (.setAttention 1 1 9) cell).notices.level = 16 := by decide

/-! ### The invariants -/

/-- A waiting command that steps the cell, for the statements about every step. -/
theorem witness_QueuesStayInBounds : queuesOk (noticed 3) ∧ step (noticed 3) = .next (tick (noticed 3)) := by
  exact ⟨⟨by simp [NoticeQueues.ok, noticed, note], by decide⟩, rfl⟩

theorem witness_TablesStayCanonical : tablesOk cell :=
  ⟨by decide, by decide, by intro c hc; simp [cell, State.reset] at hc⟩

theorem witness_ConditionsFollowLife : conditionsOk cell := by
  refine ⟨?_, by intro c hc; simp [cell, State.reset] at hc⟩
  have h : ∀ e ∈ cell.tools, e.2.condition = .sound ∧ e.2.lifeCondition = .sound := by decide
  intro e he
  unfold Tool.conditionOk
  rw [(h e he).1]
  exact (h e he).2

theorem witness_RecordsStayInRange : recordsOk cell := by
  refine ⟨⟨?_, by intro c hc; simp [cell, State.reset] at hc⟩, ?_, by decide, by intro c hc; simp [cell, State.reset] at hc,
    by intro c hc; simp [cell, State.reset] at hc⟩
  · intro e he
    simp only [cell, List.mem_cons, List.not_mem_nil, or_false] at he
    rcases he with rfl | rfl | rfl | rfl <;> exact tool_inRange _ _ _ (by decide)
  · intro st
    have h : ∀ st : Fin 6, (cell.monitor st).energy = 0 ∧ (cell.monitor st).op = none := by decide
    exact ⟨by rw [(h st).1]; decide, by rw [(h st).2]; simp⟩

theorem witness_ChainsAgreeWithGroups : chainsOk cell := by
  have hg : ∀ n, cell.group? n =
      if 1 = n then some ⟨.wheel, [1, 2], .chain, 0, 3, .hold, 0, ⟨.condemn, .suspend, .report, .ignore⟩, []⟩ else none :=
    fun _ => rfl
  constructor
  · intro gno g h
    rw [hg] at h
    split at h <;> simp at h
    subst h; subst_vars
    refine ⟨by decide, by decide, by decide, by decide, ?_⟩
    intro n hn
    simp at hn
    rcases hn with rfl | rfl <;> exact ⟨_, rfl, rfl, rfl⟩
  · intro n t h hne
    rw [cell_tool] at h
    (repeat' split at h) <;> simp at h <;> subst h <;> subst_vars <;> simp [tool] at hne ⊢ <;> simp [hg]

/-- The premise of the whole-cell statement holds of the cell, whose two mounted tools serve. -/
theorem witness_SwapsKeepTheCellWhole : cellOk cell ∧ cell.powered = true ∧ step cell = .next (tick cell) ∧
    (tick cell).powered = true := by
  have hs : ∀ p : Fin 12, (cell.position p).state ≠ .runOn := by decide
  refine ⟨⟨by decide, by decide, witness_ChainsAgreeWithGroups, ⟨?_, ?_, ?_⟩, ?_, ?_, fun p h => absurd h (hs p)⟩, rfl, rfl,
    rfl⟩
  · intro p; simp only [Position.shapeOk]; revert p; decide
  · intro p n
    rw [cell_tool]
    have hp : (cell.position p).active = if p = 0 then 1 else if p = 1 then 5 else 0 := by revert p; decide
    rw [hp]
    split <;> (try split) <;> (repeat' split) <;> simp_all [tool] <;> omega
  · intro p n
    rw [cell_tool]
    have hp : (cell.position p).sister = 0 := by revert p; decide
    rw [hp]
    constructor
    · rintro ⟨h, rfl⟩; exact absurd rfl h
    · rintro ⟨t, h, ht⟩
      (repeat' split at h) <;> simp at h <;> subst h <;> simp [tool] at ht
  · intro gno g h
    simp only [State.group?, cell, tableGet] at h
    split at h <;> simp at h
    subst h
    refine ⟨by decide, fun p => ?_⟩
    have hp : ¬(cell.position p).waits := by
      have : (cell.position p).state ≠ .waiting ∧ (cell.position p).state ≠ .runOn := by revert p; decide
      simp [Position.waits, this]
    exact ⟨fun hm => absurd hm (by simp), fun hm => absurd hm.1 hp⟩
  · intro n t h p hp
    rw [cell_tool] at h
    (repeat' split at h) <;> simp at h <;> subst h <;> simp [tool] at hp <;> subst hp <;> rfl

end Sys2Proof.Tests
end

section
/-! The moves of the part: the elementary changes every event, request and millisecond is made of, each with what is known
where it is made. What a step can do is said once, as a run of moves; each invariant is then shown for the moves alone. -/

namespace Sys2Proof.Machine

/-! ### The writes that a swap and a group request make together -/

namespace State

/-- The writes of a MOUNT (R148). -/
def seatTool (s : State) (p : Fin 12) (n : Nat) : State :=
  ((s.commit [s.oldTool n]).place n (.mounted p)).setPosition p ⟨.serving, n, 0, 0⟩

/-- The writes of a DISMOUNT (R149). -/
def unseat (s : State) (p : Fin 12) : State :=
  (((s.leaveWaiting p).commit [s.oldTool (s.position p).active]).place (s.position p).active .store).setPosition p
    Position.vacant

/-- The writes of a CONFIRM_SWAP (R144, R145). -/
def swapSeats (s : State) (p : Fin 12) (u : Nat) : State :=
  ((((s.commit [s.oldTool (s.position p).active, s.oldTool (s.position p).sister, s.oldTool u]).place
    (s.position p).active .store).place (s.position p).sister .store).place u (.mounted p)).setPosition p
    ⟨.serving, u, 0, 0⟩

/-- The writes of a CANCEL_SWAP (R146). -/
def dropSister (s : State) (p : Fin 12) : State :=
  ((s.commit [s.oldTool (s.position p).sister]).place (s.position p).sister .store).setPosition p
    ⟨.halted, (s.position p).active, 0, 0⟩

/-- A position of an exhausted group joins its list and goes to another state (R129). -/
def joinAs (s : State) (p : Fin 12) (gno : Nat) (x : PositionState) : State :=
  (s.modifyGroup gno fun g => g.join p).rest p x

/-- The chain of a group that may be undefined. -/
def chainOf (s : State) (group : Nat) : List Nat := match s.group? group with | some g => g.chain | none => []

/-- The waiting list of a group that may be undefined. -/
def waitingOf (s : State) (group : Nat) : List (Fin 12) := match s.group? group with | some g => g.waiting | none => []

/-- The members that a new chain drops (R122). -/
def droppedBy (s : State) (group : Nat) (chain : List Nat) : List Nat := (s.chainOf group).filter (· ∉ chain)

/-- The waiting list that a DEFINE_GROUP leaves (R123). -/
def waitingFor (s : State) (group : Nat) (chain : List Nat) : List (Fin 12) :=
  s.waitingOf group ++ s.seatsAdded (chain.filter (· ∉ s.chainOf group))

/-- The writes of a DEFINE_GROUP (R123). -/
def regroup (s : State) (group : Nat) (g : Group) : State :=
  (((s.commit (s.oldGroup group :: (s.droppedBy group g.chain ++ g.chain).map s.oldTool)).setGroup group
    { g with waiting := s.waitingFor group g.chain }).setGroupField 0 (s.droppedBy group g.chain)).setGroupField group
      g.chain

/-- The writes of a DELETE_GROUP (R125). -/
def disband (s : State) (group : Nat) (g : Group) : State :=
  ((s.commit (s.oldGroup group :: g.chain.map s.oldTool)).setGroupField 0 g.chain).eraseGroup group

/-- The writes of a CLEAR_TABLES (R174). -/
def wipeTables (s : State) : State := ((s.commit [.tables s.tools s.groups]).withTools []).withGroups []

/-- The writes of a RESET_STATION to lists and tools (R115). -/
def restartTables (s : State) (st : Fin 6) : State :=
  (((s.leaveAll (wheelPos st)).leaveAll (dresserPos st)).releaseAt (wheelPos st)).releaseAt (dresserPos st)

/-- The rebuild of the two positions of a station (R115, R150). -/
def rebuildSeats (s : State) (st : Fin 6) : State :=
  let s := s.setPosition (wheelPos st) (s.rebuilt (wheelPos st))
  s.setPosition (dresserPos st) (s.rebuilt (dresserPos st))

/-- The writes of a RESET_STATION to lists, tools and positions (R115). -/
def restartSeats (s : State) (st : Fin 6) : State := (s.restartTables st).rebuildSeats st

/-- A taken DISMOUNT is its writes and the reports of the change and of the tool (R130, R149). -/
theorem takeDismount_eq (s : State) (p : Fin 12) :
    s.takeDismount p = ((s.unseat p).reportToolChange p).reportIfEligible (s.position p).active := by
  unfold takeDismount unseat leaveWaiting
  dsimp only
  split
  · unfold modifyGroup
    split <;> rfl
  · rfl

end State

/-! ### What is known of a move -/

/-- A write of a commit says what its record holds now. -/
def RetainedWrite.current (s : State) : RetainedWrite → Prop
  | .tool n old => old = s.tool? n
  | .group n old => old = s.group? n
  | .config st old => old = s.config st
  | .tables ts gs => ts = s.tools ∧ gs = s.groups

/-- The volatile and configured numbers that flow into tool records are in range. -/
def State.feedOk (s : State) : Prop :=
  (∀ st : Fin 6, (s.monitor st).inRange) ∧ (∀ st : Fin 6, 1 ≤ (s.config st).eMin) ∧ ∀ n t, s.tool? n = some t → t.inRange

/-- A tool record wears from `t` to `u`: its kind, its group and its place stand, its condition stays in agreement with its
life, and its fields stay in their ranges. -/
structure Tool.Wears (s : State) (w : Prop) (t u : Tool) : Prop where
  kind : u.kind = t.kind
  group : u.group = t.group
  placement : u.placement = t.placement
  condition : t.conditionOk → u.conditionOk
  range : w → s.feedOk → u.inRange

/-- A position may be given a sister of group `gno`: it has none yet and its tool is of the group, or it waits in the
group's list. -/
def State.canBeGiven (s : State) (p : Fin 12) (gno : Nat) (g : Group) : Prop :=
  (∃ t, s.tool? (s.position p).active = some t ∧ t.group = gno ∧ (s.position p).state ≠ .ordered ∧
    (s.position p).state ≠ .timedOut) ∨
  (p ∈ g.waiting ∧ (s.position p).state = .waiting)

/-- What DEFINE_GROUP has checked of the record it writes (R122). -/
structure State.Regroupable (s : State) (group : Nat) (g : Group) : Prop where
  number : 1 ≤ group
  atMostEight : g.chain.length ≤ 8
  nodup : g.chain.Nodup
  cursor : g.cursor = 0
  defined : ∀ n ∈ g.chain, ∃ t, s.tool? n = some t ∧ t.kind = g.kind ∧ (t.group = 0 ∨ t.group = group)
  free : ∀ n ∈ s.droppedBy group g.chain, ∀ p ∈ s.waitingOf group, (s.position p).active ≠ n

/-- The elementary changes. `w` says that the command taken can be sent as it stands. -/
inductive Move (w : Prop) : State → State → Prop
  /-- Nothing of the tables, the configurations, the positions, the monitors, the journal and the queue changes. -/
  | aside {s t : State} (h : onlyChanges [.powered, .clock, .captures, .incidents, .flags, .notices, .link] s t) : Move w s t
  /-- The commits of the event before are complete. -/
  | begin (s : State) : Move w s (s.withJournal [])
  | commit (s : State) (ws : List RetainedWrite) (h : ∀ x ∈ ws, x.current s) : Move w s (s.commit ws)
  | monitor (s : State) (st : Fin 6) (m : Monitor) (h : s.feedOk → m.inRange) : Move w s (s.setMonitor st m)
  | config (s : State) (st : Fin 6) (c : StationConfig) (h : 1 ≤ c.eMin) : Move w s (s.setConfig st c)
  | wear (s : State) (n : Nat) (t u : Tool) (h : s.tool? n = some t) (hu : t.Wears s w u) : Move w s (s.setTool n u)
  /-- DEFINE_TOOL. -/
  | define (s : State) (n : Nat) (u : Tool) (h : s.tool? n = none) (hn : 1 ≤ n) (hg : u.group = 0)
      (hp : u.placement = .store) (hc : u.conditionOk) (hr : w → u.inRange) : Move w s (s.setTool n u)
  /-- DELETE_TOOL. -/
  | erase (s : State) (n : Nat) (t : Tool) (h : s.tool? n = some t) (hg : t.group = 0) (hp : t.placement = .store) :
      Move w s (s.eraseTool n)
  /-- A reservation (R127, R128). -/
  | give (s : State) (p : Fin 12) (gno : Nat) (g : Group) (i : Nat) (hg : s.group? gno = some g) (hi : s.scan g = some i)
      (hp : s.canBeGiven p gno g) : Move w s (s.giveSister p gno g i)
  /-- The tool of a SERVING position is SPENT (R137). -/
  | due (s : State) (p : Fin 12) (h : (s.position p).state = .serving) : Move w s (s.rest p .due)
  /-- The tool of a position has regained its life (R137). -/
  | serveAgain (s : State) (p : Fin 12)
      (h : (s.position p).state = .due ∨ (s.position p).state = .waiting ∨ (s.position p).state = .runOn) :
      Move w s (s.backToServing p)
  /-- A selection finds the tool ungrouped (R128). -/
  | waitUngrouped (s : State) (p : Fin 12) (t : Tool) (h : s.tool? (s.position p).active = some t)
      (hg : s.groupOf t = none) (ho : (s.position p).state ≠ .ordered) (ht : (s.position p).state ≠ .timedOut) :
      Move w s (s.rest p .waiting)
  /-- A selection finds the group exhausted (R129). -/
  | waitGrouped (s : State) (p : Fin 12) (t : Tool) (x : PositionState) (h : s.tool? (s.position p).active = some t)
      (hg : t.group ≠ 0) (ho : (s.position p).state ≠ .ordered) (ht : (s.position p).state ≠ .timedOut)
      (hx : x = .waiting ∨ x = .runOn) : Move w s (s.joinAs p t.group x)
  /-- A rescan takes a RUN_ON position to WAITING (R132). -/
  | runOut (s : State) (p : Fin 12) (h : (s.position p).state = .runOn) : Move w s (s.rest p .waiting)
  /-- A swap timer counts down (R141). -/
  | countDown (s : State) (p : Fin 12) (k : Nat) (h : (s.position p).state = .ordered) :
      Move w s (s.setPosition p { s.position p with timer := k })
  /-- A swap timer expires (R142). -/
  | timeOut (s : State) (p : Fin 12) (h : (s.position p).state = .ordered) :
      Move w s (s.setPosition p ⟨.timedOut, (s.position p).active, (s.position p).sister, 0⟩)
  | mount (s : State) (p : Fin 12) (n : Nat) (t : Tool) (h : s.tool? n = some t) (hp : (s.position p).state = .empty)
      (hk : t.kind = seatKind p) (hs : t.placement = .store) : Move w s (s.seatTool p n)
  | dismount (s : State) (p : Fin 12) (he : (s.position p).state ≠ .empty) (ho : (s.position p).state ≠ .ordered)
      (ht : (s.position p).state ≠ .timedOut) : Move w s (s.unseat p)
  | exchange (s : State) (p : Fin 12) (u : Nat) (h : (s.position p).state = .ordered)
      (hu : u = (s.position p).sister ∨ s.isSubstitute (s.position p).sister u = true) : Move w s (s.swapSeats p u)
  | cancel (s : State) (p : Fin 12) (h : (s.position p).state = .ordered ∨ (s.position p).state = .timedOut) :
      Move w s (s.dropSister p)
  | regroup (s : State) (group : Nat) (g : Group) (h : s.Regroupable group g) (hl : w → 1 ≤ g.chain.length) :
      Move w s (s.regroup group g)
  | disband (s : State) (group : Nat) (g : Group) (h : s.group? group = some g) (he : g.waiting = []) :
      Move w s (s.disband group g)
  | wipe (s : State) (h : ∀ e ∈ s.tools, e.2.placement = .store) : Move w s s.wipeTables
  | restart (s : State) (st : Fin 6) : Move w s (s.restartSeats st)
  | reset (s : State) : Move w s s.resetBlocks

/-- A run of moves. -/
abbrev Moves (w : Prop) : State → State → Prop := Relation.ReflTransGen (Move w)

/-- What every move keeps, a run of moves keeps. -/
theorem Moves.keeps {w : Prop} {I : State → Prop} (h : ∀ s t, Move w s t → I s → I t) {s t : State} (hm : Moves w s t)
    (hs : I s) : I t := by
  induction hm with
  | refl => exact hs
  | tail _ hl ih => exact h _ _ hl ih

end Sys2Proof.Machine
end

section
/-! What each shared operation does, as a run of moves. -/

namespace Sys2Proof.Machine

/-! ### Wear of a tool record -/

/-- Of two writes of one record the later stands. -/
theorem tablePut_tablePut {α : Type} (t : Table α) (n : Nat) (a b : α) :
    tablePut (tablePut t n a) n b = tablePut t n b := by
  induction t with
  | nil => simp [tablePut]
  | cons e rest ih =>
    obtain ⟨k, v⟩ := e
    by_cases hlt : n < k
    · simp [tablePut, hlt]
    · by_cases heq : n = k
      · subst heq; simp [tablePut]
      · simp [tablePut, hlt, heq, ih]

theorem State.setTool_setTool (s : State) (n : Nat) (a b : Tool) : (s.setTool n a).setTool n b = s.setTool n b := by
  show s.withTools (tablePut (tablePut s.tools n a) n b) = s.withTools (tablePut s.tools n b)
  rw [tablePut_tablePut]

/-- A record after an ordinary recompute (R9). -/
def Tool.recomputed (t : Tool) : Tool := { t with condition := t.ordinaryCondition }

@[simp] theorem Tool.recomputed_condition (t : Tool) : t.recomputed.condition = t.ordinaryCondition := rfl

/-- An ordinary recompute leaves the condition in agreement with the life (R8, R9). -/
theorem Tool.conditionOk_recomputed (t : Tool) : t.recomputed.conditionOk := by
  have life : t.recomputed.lifeCondition = t.lifeCondition := rfl
  have known : t.lifeCondition = .sound ∨ t.lifeCondition = .warned ∨ t.lifeCondition = .spent := by
    unfold lifeCondition; split_ifs <;> simp
  unfold conditionOk
  rw [life, recomputed_condition]
  unfold ordinaryCondition
  cases t.condition <;> rcases known with h | h | h <;> simp [h]

theorem Tool.recomputed_of_eq {t : Tool} (h : t.ordinaryCondition = t.condition) : t.recomputed = t := by
  unfold recomputed; rw [h]

/-- A forced recompute leaves the condition in agreement with the life (R8, R9). -/
theorem Tool.conditionOk_forced (t : Tool) : t.forced.conditionOk := by
  have life : t.forced.lifeCondition = t.lifeCondition := rfl
  have known : t.lifeCondition = .sound ∨ t.lifeCondition = .warned ∨ t.lifeCondition = .spent := by
    unfold lifeCondition; split_ifs <;> simp
  unfold conditionOk
  rw [life, show t.forced.condition = t.lifeCondition from rfl]
  rcases known with h | h | h <;> simp [h]

/-- A tool record changes from `t` to `u` before a recompute: as it wears, but for the condition. -/
structure Tool.Changes (s : State) (w : Prop) (t u : Tool) : Prop where
  kind : u.kind = t.kind
  group : u.group = t.group
  placement : u.placement = t.placement
  range : w → s.feedOk → u.inRange

theorem Tool.Changes.wears {s : State} {w : Prop} {t u : Tool} (h : t.Changes s w u) (hc : u.conditionOk) : t.Wears s w u :=
  ⟨h.kind, h.group, h.placement, fun _ => hc, h.range⟩

/-- The ranges do not speak of the condition. -/
theorem Tool.Changes.recomputed {s : State} {w : Prop} {t u : Tool} (h : t.Changes s w u) : t.Wears s w u.recomputed :=
  ⟨h.kind, h.group, h.placement, fun _ => u.conditionOk_recomputed, h.range⟩

theorem State.feedOk.tool {s : State} (h : s.feedOk) {n : Nat} {t : Tool} (ht : s.tool? n = some t) : t.inRange :=
  h.2.2 n t ht

/-- A new condition alone. -/
theorem Tool.Wears.ofCondition {s : State} {w : Prop} {n : Nat} {t : Tool} (h : s.tool? n = some t) (x : Condition)
    (hc : t.conditionOk → ({ t with condition := x } : Tool).conditionOk) : t.Wears s w { t with condition := x } :=
  ⟨rfl, rfl, rfl, hc, fun _ hf => (hf.tool h : t.inRange)⟩

namespace Moves

variable {w : Prop} (s : State)

theorem refl : Moves w s s := Relation.ReflTransGen.refl

/-- A change beside the tables, the configurations, the positions, the monitors, the journal and the queue. -/
theorem ofAside {s t : State} (tools : t.tools = s.tools) (groups : t.groups = s.groups) (configs : t.configs = s.configs)
    (monitors : t.monitors = s.monitors) (positions : t.positions = s.positions) (journal : t.journal = s.journal)
    (pending : t.pending = s.pending) : Moves w s t :=
  .single (.aside (by intro x hx; cases x <;> first | assumption | simp at hx))

theorem ite {s t u : State} {c : Prop} [Decidable c] (h : c → Moves w s t) (k : ¬c → Moves w s u) :
    Moves w s (if c then t else u) := by
  split
  · exact h ‹_›
  · exact k ‹_›

theorem notify (u : Bool) (k : NoticeKind) (st : Option (Fin 6)) (pk : Option Kind) (n a b : Nat) :
    Moves w s (s.notify u k st pk n a b) := ofAside rfl rfl rfl rfl rfl rfl rfl

theorem withNotices (q : NoticeQueues) : Moves w s (s.withNotices q) := ofAside rfl rfl rfl rfl rfl rfl rfl

theorem withLink (l : LinkPort) : Moves w s (s.withLink l) := ofAside rfl rfl rfl rfl rfl rfl rfl

theorem withClock (k : Nat) : Moves w s (s.withClock k) := ofAside rfl rfl rfl rfl rfl rfl rfl

theorem withPowered (b : Bool) : Moves w s (s.withPowered b) := ofAside rfl rfl rfl rfl rfl rfl rfl

theorem withIncidents (v : Vector Incident 6) : Moves w s (s.withIncidents v) := ofAside rfl rfl rfl rfl rfl rfl rfl

theorem setCapture (st : Fin 6) (c : Capture) : Moves w s (s.setCapture st c) := ofAside rfl rfl rfl rfl rfl rfl rfl

theorem setIncident (st : Fin 6) (i : Incident) : Moves w s (s.setIncident st i) := ofAside rfl rfl rfl rfl rfl rfl rfl

theorem setFlag (st : Fin 6) (f : StationFlags) : Moves w s (s.setFlag st f) := ofAside rfl rfl rfl rfl rfl rfl rfl

theorem beginEvent : Moves w s s.beginEvent := .single (.begin s)

theorem commit (ws : List RetainedWrite) (h : ∀ x ∈ ws, x.current s) : Moves w s (s.commit ws) := .single (.commit s ws h)

/-- The commit of one tool record. -/
theorem commitTool (n : Nat) : Moves w s (s.commit [s.oldTool n]) := commit s _ (by simp [State.oldTool, RetainedWrite.current])

theorem setTool {s : State} {n : Nat} {t u : Tool} (h : s.tool? n = some t) (hu : t.Wears s w u) : Moves w s (s.setTool n u) :=
  .single (.wear s n t u h hu)

theorem modifyTool (n : Nat) (f : Tool → Tool) (hf : ∀ t, s.tool? n = some t → t.Wears s w (f t)) :
    Moves w s (s.modifyTool n f) := by
  unfold State.modifyTool
  split
  · exact setTool ‹_› (hf _ ‹_›)
  · exact refl s

/-- A change of a monitor that keeps its energy and its operation. -/
theorem modifyMonitor (st : Fin 6) (f : Monitor → Monitor) (h : s.feedOk → (f (s.monitor st)).inRange) :
    Moves w s (s.modifyMonitor st f) := .single (.monitor s st _ h)

/-! ### The sister selector -/

theorem giveSister {p : Fin 12} {gno : Nat} {g : Group} {i : Nat} (hg : s.group? gno = some g) (hi : s.scan g = some i)
    (hp : s.canBeGiven p gno g) : Moves w s (s.giveSister p gno g i) := .single (.give s p gno g i hg hi hp)

/-- The exhausted case, with the position's own writes last: the OVERRUN first, the list and the state after it. -/
theorem exhausted_eq (p : Fin 12) (n : Nat) (t : Tool) (g : Group) : s.exhausted p n t g =
    if (t.condition = .spent ∨ t.condition = .overrun) ∧ g.action = .runOn ∧ t.used < t.overrunCeiling g.overrunPercent then
      ((if t.condition = .overrun then s
        else (s.commit [s.oldTool n]).modifyTool n fun t => { t with condition := .overrun }).joinAs p t.group .runOn).notify
          false .runOn (some (stationOf p)) (some (seatKind p)) n (t.overrunCeiling g.overrunPercent) 0
    else ((s.joinAs p t.group .waiting).notify true .noSister (some (stationOf p)) (some (seatKind p))
      ((s.joinAs p t.group .waiting).position p).active t.group 0) := by
  unfold State.exhausted State.waitFor State.joinAs State.modifyGroup State.modifyTool
  dsimp only
  split
  · split
    · rfl
    · cases hg : s.group? t.group <;> cases ht : s.tool? n <;>
        simp [State.setGroup, State.setTool, State.group?, State.tool?, State.withTools, State.withGroups, State.withJournal,
          State.oldTool] at hg ht ⊢ <;> simp [hg, ht]
  · rfl

theorem groupOf_some {s : State} {t : Tool} {g : Group} (h : s.groupOf t = some g) :
    t.group ≠ 0 ∧ s.group? t.group = some g := by
  unfold State.groupOf at h
  split at h
  · cases h
  · exact ⟨‹_›, h⟩

theorem exhausted {p : Fin 12} {t : Tool} {g : Group} (h : s.tool? (s.position p).active = some t) (hg : t.group ≠ 0)
    (ho : (s.position p).state ≠ .ordered) (ht : (s.position p).state ≠ .timedOut) :
    Moves w s (s.exhausted p (s.position p).active t g) := by
  rw [exhausted_eq]
  refine ite (fun hc => ?_) (fun _ => ?_)
  · refine .trans ?_ (notify ..)
    split
    · exact .single (.waitGrouped s p t .runOn h hg ho ht (.inr rfl))
    · next hne =>
      have hs : t.condition = .spent := hc.1.resolve_right hne
      have worn : Moves w s ((s.commit [s.oldTool (s.position p).active]).modifyTool (s.position p).active
          fun t => { t with condition := .overrun }) := by
        refine (commitTool s _).trans (modifyTool _ _ _ fun y hy => ?_)
        obtain rfl : t = y := by simpa [h] using hy
        refine .ofCondition hy .overrun fun hk => ?_
        have spent : t.lifeCondition = .spent := by simpa [Tool.conditionOk, hs] using hk
        exact spent
      refine worn.trans (.single ?_)
      exact .waitGrouped _ p { t with condition := .overrun } .runOn (by simp [h]) hg (by simpa using ho) (by simpa using ht)
        (.inr rfl)
  · exact .trans (.single (.waitGrouped s p t .waiting h hg ho ht (.inl rfl))) (notify ..)

theorem selection (p : Fin 12) (ho : (s.position p).state ≠ .ordered) (ht : (s.position p).state ≠ .timedOut) :
    Moves w s (s.selection p) := by
  obtain ⟨_, h⟩ | ⟨t, hn, ⟨hg, h⟩ | ⟨g, hg, ⟨i, hi, h⟩ | ⟨_, h⟩⟩⟩ := s.selection_cases p
  · rw [h]
  · rw [h]; exact .trans (.single (.waitUngrouped s p t hn hg ho ht)) (notify ..)
  · rw [h]; exact giveSister s (groupOf_some hg).2 hi (.inl ⟨t, hn, rfl, ho, ht⟩)
  · rw [h]; exact exhausted s hn (groupOf_some hg).1 ho ht

theorem serviceLoop (gno fuel : Nat) : Moves w s (s.serviceLoop gno fuel) := by
  induction fuel generalizing s with
  | zero => exact refl s
  | succ fuel ih =>
    unfold State.serviceLoop
    split
    · exact refl s
    · next g hg =>
      split
      · exact refl s
      · next p hp =>
        split
        · exact refl s
        · next i hi =>
          have waits : (s.position p).state = .waiting := by simpa using List.find?_some hp
          exact (giveSister s hg hi (.inr ⟨List.mem_of_find?_eq_some hp, waits⟩)).trans (ih _)

theorem eligibilityEvent (gno : Nat) : Moves w s (s.eligibilityEvent gno) := by
  unfold State.eligibilityEvent
  split
  · exact refl s
  · exact serviceLoop ..

theorem reportIfEligible (n : Nat) : Moves w s (s.reportIfEligible n) := by
  unfold State.reportIfEligible
  split
  · exact refl s
  · exact ite (fun _ => eligibilityEvent ..) fun _ => refl s

theorem rescan (p : Fin 12) (h : (s.position p).state = .runOn) : Moves w s (s.rescan p) := by
  obtain hr | ⟨t, g, hn, hg, ⟨i, hi, hr⟩ | ⟨_, hr⟩⟩ := s.rescan_cases p
  · rw [hr]
  · rw [hr]; exact giveSister s (groupOf_some hg).2 hi (.inl ⟨t, hn, rfl, by simp [h], by simp [h]⟩)
  · rw [hr]; exact .trans (.single (.runOut s p h)) (notify ..)

/-! ### The swap controller -/

theorem regained (p : Fin 12) : Moves w s (s.regained p) := by
  unfold State.regained
  split
  · exact .single (.serveAgain s p (by simp [*]))
  · exact .single (.serveAgain s p (by simp [*]))
  · exact .single (.serveAgain s p (by simp [*]))
  all_goals exact refl s

theorem conditionReport (p : Fin 12) (old new : Condition) : Moves w s (s.conditionReport p old new) := by
  unfold State.conditionReport
  split
  · exact ite (fun h => .single (.due s p h)) fun _ => refl s
  · split <;> first | exact selection s p (by simp [*]) (by simp [*]) | exact refl s
  · exact refl s
  · exact refl s
  · exact ite (fun _ => regained s p) fun _ => refl s
  · exact ite (fun _ => regained s p) fun _ => refl s

theorem handOver (x : Placement) (old new : Condition) : Moves w s (s.handOver x old new) := by
  unfold State.handOver
  split
  · exact conditionReport ..
  · exact refl s
  · exact refl s

theorem partEndAt (p : Fin 12) : Moves w s (s.partEndAt p) := by
  unfold State.partEndAt
  split
  · exact selection s p (by simp [*]) (by simp [*])
  · exact rescan s p ‹_›
  all_goals exact refl s

theorem partEnd (st : Fin 6) : Moves w s (s.partEnd st) := (partEndAt ..).trans (partEndAt ..)

theorem resumeAt (p : Fin 12) : Moves w s (s.resumeAt p) :=
  ite (fun h => selection s p (by simp [h]) (by simp [h])) fun _ => refl s

theorem timerExpiry (p : Fin 12) : Moves w s (s.timerExpiry p) :=
  ite (fun h => .trans (.single (.timeOut s p h)) (notify ..)) fun _ => refl s

/-! ### The life accounting unit -/

theorem crossingNotice (n : Nat) (old : Condition) (t : Tool) : Moves w s (s.crossingNotice n old t) :=
  ite (fun _ => notify ..) fun _ => ite (fun _ => ite (fun _ => notify ..) fun _ => notify ..) fun _ => refl s

/-- A changed record and its recompute are one wear of it, with the notice and the hand-over. -/
theorem recompute_setTool {s : State} {n : Nat} {t u : Tool} (h : s.tool? n = some t) (hu : t.Changes s w u) :
    Moves w s ((s.setTool n u).recompute n) := by
  unfold State.recompute
  simp only [State.setTool_toolGet, if_true]
  refine ite (fun he => ?_) fun _ => ?_
  · have ok := u.conditionOk_recomputed
    rw [Tool.recomputed_of_eq he] at ok
    exact setTool h (hu.wears ok)
  · rw [State.setTool_setTool]
    exact ((setTool h hu.recomputed).trans (crossingNotice ..)).trans (handOver ..)

theorem recompute_modifyTool (n : Nat) (f : Tool → Tool) (hf : ∀ t, s.tool? n = some t → t.Changes s w (f t)) :
    Moves w s ((s.modifyTool n f).recompute n) := by
  unfold State.modifyTool
  split
  · exact recompute_setTool ‹_› (hf _ ‹_›)
  · next h => simp [State.recompute, h, refl]

theorem reportIfBecame (n : Nat) (b : Bool) : Moves w s (s.reportIfBecame n b) :=
  ite (fun _ => refl s) fun _ => reportIfEligible ..

theorem satAdd32_le (a b : Nat) : satAdd32 a b ≤ max32 := Nat.min_le_left ..

theorem charge (n weight : Nat) : Moves w s (s.charge n weight) := by
  refine recompute_modifyTool s n _ fun t ht => ⟨rfl, rfl, rfl, fun _ hf => ?_⟩
  have := hf.tool ht
  simp_all [Tool.inRange, satAdd32_le]

theorem breakTool (n : Nat) : Moves w s (s.breakTool n) := by
  unfold State.breakTool
  split
  · exact refl s
  · exact ite (fun _ => refl s) fun _ => (setTool ‹_› (.ofCondition ‹_› .broken fun _ => trivial)).trans (handOver ..)

theorem wheelShare (n d : Nat) : Moves w s (s.wheelShare n d) := by
  refine (commitTool s n).trans (recompute_modifyTool _ n _ fun t ht => ⟨rfl, rfl, rfl, fun _ hf => ?_⟩)
  have := hf.tool ht
  simp only [Tool.inRange] at this ⊢
  simp_all [satAdd32_le]; omega

theorem dresserShare (n weight : Nat) : Moves w s (s.dresserShare n weight) := by
  refine (commitTool s n).trans (recompute_modifyTool _ n _ fun t ht => ⟨rfl, rfl, rfl, fun _ hf => ?_⟩)
  have := hf.tool ht
  simp_all [Tool.inRange, satAdd32_le]

theorem dressEnd (l : Latched) : Moves w s (s.dressEnd l) :=
  (ite (fun _ => wheelShare ..) fun _ => refl s).trans (dresserShare ..)

end Moves

end Sys2Proof.Machine
end

section
/-! What the detections, the pass end and the work of a sample do, as runs of moves. -/

namespace Sys2Proof.Machine

/-! ### The ranges that flow into a pass end (R3, R57, R62) -/

/-- A learning step keeps a reference in range, from an energy that is no AIR pass's (R50, R57, R58). -/
theorem ClassRef.inRange_learn {x : ClassRef} {energy learnCount : Nat} (h : x.inRange) (hs : x.state ≠ .learned)
    (h1 : 1 ≤ energy) (h32 : energy ≤ max32) (hl : learnCount ≤ 16) : (x.learn energy learnCount).inRange := by
  have hn : x.n ≤ 15 ∧ x.n ≤ x.sum ∧ x.sum ≤ x.n * max32 ∧ x.value = 0 := by
    unfold inRange at h
    split at h
    · obtain ⟨hn, hsum, hv⟩ := h; simp [hn, hsum, hv]
    · obtain ⟨_, h15, hle, hge, hv⟩ := h; exact ⟨h15, hle, hge, hv⟩
    · contradiction
  obtain ⟨h15, hle, hge, hv⟩ := hn
  have grown : x.n + 1 ≤ x.sum + energy ∧ x.sum + energy ≤ (x.n + 1) * max32 := ⟨by omega, by rw [Nat.add_mul]; omega⟩
  unfold learn
  dsimp only
  split
  · simp only [inRange]
    exact ⟨by omega, by omega, grown.1, grown.2, Nat.div_pos grown.1 (by omega), Nat.div_le_of_le_mul grown.2⟩
  · simp only [inRange]
    exact ⟨by omega, by omega, grown.1, grown.2, hv⟩

/-- A difference divided with truncation toward zero lies between 0 and the difference. -/
theorem tdiv_between (a : Int) {d : Int} (hd : 1 ≤ d) : (0 ≤ a → 0 ≤ a.tdiv d ∧ a.tdiv d ≤ a) ∧
    (a ≤ 0 → a ≤ a.tdiv d ∧ a.tdiv d ≤ 0) := by
  have pos : ∀ b : Int, 0 ≤ b → 0 ≤ b.tdiv d ∧ b.tdiv d ≤ b := fun b hb =>
    ⟨Int.tdiv_nonneg hb (by omega), by rw [Int.tdiv_eq_ediv_of_nonneg hb]; exact Int.ediv_le_self d hb⟩
  refine ⟨pos a, fun ha => ?_⟩
  have := pos (-a) (by omega)
  rw [Int.neg_tdiv] at this
  omega

/-- A smoothing step keeps a learned reference in range (R62). -/
theorem ClassRef.inRange_smooth {x : ClassRef} {energy : Nat} (shift : Nat) (h : x.inRange) (hs : x.state = .learned)
    (h1 : 1 ≤ energy) (h32 : energy ≤ max32) : (x.smooth energy shift).inRange := by
  simp only [inRange, hs] at h
  obtain ⟨hn, h16, hle, hge, hv1, hv32⟩ := h
  have between := tdiv_between ((energy : Int) - x.value) (d := 2 ^ shift) (by have := Int.pow_pos (n := 2) (m := shift) (by decide); omega)
  simp only [inRange, smooth, hs]
  refine ⟨hn, h16, hle, hge, ?_, ?_⟩ <;> rcases le_total (0 : Int) ((energy : Int) - x.value) with hd | hd
  · have := between.1 hd; omega
  · have := between.2 hd; omega
  · have := between.1 hd; omega
  · have := between.2 hd; omega

/-- What a pass end carries is in range. -/
def PassEnd.fits (e : PassEnd) : Prop := e.energy ≤ max32 ∧ 1 ≤ e.eMin ∧ e.judge.learnCount ≤ 16

/-- A LEARNING outcome comes of an energy of at least E_min, on a reference not yet LEARNED (R50). -/
theorem PassEnd.outcome_learning {e : PassEnd} {t : Tool} (h : e.outcome t = .learning) :
    e.eMin ≤ e.energy ∧ t.refs[e.passClass].state ≠ .learned := by
  unfold PassEnd.outcome passOutcome at h
  split_ifs at h
  exact ⟨by omega, ‹_›⟩

/-- A GOOD outcome comes of an energy of at least E_min, on a LEARNED reference (R50). -/
theorem PassEnd.outcome_good {e : PassEnd} {t : Tool} (h : e.outcome t = .good) :
    e.eMin ≤ e.energy ∧ t.refs[e.passClass].state = .learned := by
  unfold PassEnd.outcome passOutcome at h
  split_ifs at h with _ _ hl
  exact ⟨by omega, not_not.1 hl⟩

/-- One class reference written: every reference is in range when the new one is. -/
theorem Tool.inRange_setRef {t : Tool} {c : Fin 4} {x : ClassRef} (h : t.inRange) (hx : x.inRange) :
    ({ t with refs := t.refs.set c x } : Tool).inRange := by
  unfold inRange at h ⊢
  have refs : ∀ d : Fin 4, (t.refs.set c x)[d].inRange := by
    intro d
    simp only [Fin.getElem_fin, Vector.getElem_set]
    split
    · exact hx
    · exact h.2.2.2.2.2.2.2.2.2.2.2.2.2.2.2.2.2.2.2.2.2.2.1 d
  simp_all

/-! ### The ranges of a monitor -/

theorem State.feedOk.monitor {s : State} (h : s.feedOk) (st : Fin 6) : (s.monitor st).inRange := h.1 st

/-- A monitor with the energy and the operation of another is in range when that is. -/
theorem Monitor.inRange_of_eq {m k : Monitor} (h : m.inRange) (he : k.energy = m.energy) (ho : k.op = m.op) : k.inRange := by
  unfold inRange; rw [he, ho]; exact h

theorem Monitor.inRange_afterToolChange {m : Monitor} (h : m.inRange) (k : Kind) (b : Bool) :
    (m.afterToolChange k b).inRange := by
  refine ⟨h.1, fun l hl => ?_⟩
  simp only [Monitor.afterToolChange, Option.map_eq_some_iff] at hl
  obtain ⟨x, hx, rfl⟩ := hl
  exact h.2 x hx

theorem Monitor.inRange_fresh (x : MonitorState) : (Monitor.fresh x).inRange :=
  ⟨Nat.zero_le _, fun _ h => by simp [Monitor.fresh] at h⟩

theorem Monitor.inRange_start {m : Monitor} (x : MonitorState) {l : Latched} (hk : l.kind = .pass → 1 ≤ l.eMin)
    (hj : ∀ j, l.judge = some j → j.learnCount ≤ 16) : (m.start x l).inRange := by
  refine ⟨Nat.zero_le _, fun y hy => ?_⟩
  obtain rfl : l = y := by simpa [Monitor.start] using hy
  exact ⟨hk, hj⟩

theorem Monitor.inRange_addEnergy {m : Monitor} (h : m.inRange) (code : Code) : (m.addEnergy code).inRange := by
  unfold Monitor.addEnergy
  split
  · exact h
  · exact ⟨Moves.satAdd32_le .., h.2⟩

namespace Moves

variable {w : Prop} (s : State)

/-- A change of a monitor that keeps its energy and its operation. -/
theorem modifyMonitorAside (st : Fin 6) (f : Monitor → Monitor)
    (h : (f (s.monitor st)).energy = (s.monitor st).energy ∧ (f (s.monitor st)).op = (s.monitor st).op) :
    Moves w s (s.modifyMonitor st f) := modifyMonitor s st f fun hf => Monitor.inRange_of_eq (hf.monitor st) h.1 h.2

/-! ### Detections -/

theorem openIncident (d : Detection) (r : Response) : Moves w s (s.openIncident d r) :=
  ((setIncident ..).trans (notify ..)).trans (setCapture ..)

theorem respond (d : Detection) : Moves w s (s.respond d) := by
  unfold State.respond
  split
  · exact refl s
  · exact notify ..
  · exact openIncident ..
  · exact (openIncident ..).trans (breakTool ..)

/-- A tally stays within 16 bits (R4). -/
theorem inRange_bump {t : Tool} (h : t.inRange) (c : DetClass) : ({ t with tallies := t.tallies.bump c } : Tool).inRange := by
  unfold Tool.inRange at h ⊢
  cases c <;> simp_all [Tallies.bump]

theorem takeDetection (d : Detection) : Moves w s (s.takeDetection d) := by
  refine Relation.ReflTransGen.trans (modifyTool s d.tool _ fun t ht => ?_)
    (ite (fun _ => setIncident ..) fun _ => respond ..)
  exact ⟨rfl, rfl, rfl, id, fun _ hf => inRange_bump (hf.tool ht) _⟩

/-! ### The pass end -/

/-- A class reference of a tool record is written. -/
theorem setRef {s : State} {n : Nat} {t : Tool} {c : Fin 4} {x : ClassRef} (h : s.tool? n = some t)
    (hx : s.feedOk → t.refs[c].inRange → x.inRange) : Moves w s (s.setTool n { t with refs := t.refs.set c x }) := by
  refine setTool h ⟨rfl, rfl, rfl, id, fun _ hf => Tool.inRange_setRef (hf.tool h) (hx hf ?_)⟩
  have := hf.tool h
  unfold Tool.inRange at this
  tauto

theorem moveReference {s : State} {st : Fin 6} {e : PassEnd} {t : Tool} (h : s.tool? e.wheel = some t)
    (he : s.feedOk → e.fits) : Moves w s (s.moveReference st e t) := by
  refine ite (fun _ => refl s) fun _ => ?_
  split
  · next ho =>
    obtain ⟨hmin, hs⟩ := e.outcome_learning ho
    refine Relation.ReflTransGen.trans (setRef h fun hf hx => ?_) (ite (fun _ => notify ..) fun _ => refl _)
    obtain ⟨h32, h1, h16⟩ := he hf
    exact ClassRef.inRange_learn hx hs (by omega) h32 h16
  · next ho =>
    obtain ⟨hmin, hs⟩ := e.outcome_good ho
    refine setRef h fun hf hx => ?_
    obtain ⟨h32, h1, h16⟩ := he hf
    exact ClassRef.inRange_smooth _ hx hs (by omega) h32
  all_goals exact refl s

theorem stepAir (st : Fin 6) (o : PassOutcome) : Moves w s (s.stepAir st o) := modifyMonitorAside _ _ _ ⟨rfl, rfl⟩

theorem raiseAtPassEnd (st : Fin 6) (e : PassEnd) (f : Option (DetClass × Nat)) : Moves w s (s.raiseAtPassEnd st e f) := by
  unfold State.raiseAtPassEnd
  split
  · exact takeDetection ..
  · exact refl s

theorem chargePass (n : Nat) (x : Option Nat) : Moves w s (s.chargePass n x) := by
  unfold State.chargePass
  split
  · exact charge ..
  · exact refl s

theorem passEnd (st : Fin 6) (e : PassEnd) (he : s.feedOk → e.fits) : Moves w s (s.passEnd st e) := by
  unfold State.passEnd
  split
  · exact refl s
  · next t ht =>
    exact ((((commitTool s _).trans (moveReference ht he)).trans (stepAir ..)).trans (raiseAtPassEnd ..)).trans (chargePass ..)

/-! ### The station monitor -/

theorem monitorTo (st : Fin 6) (x : MonitorState) : Moves w s (s.monitorTo st x) := modifyMonitorAside _ _ _ ⟨rfl, rfl⟩

theorem endProcessing (st : Fin 6) : Moves w s (s.endProcessing st) := by
  unfold State.endProcessing
  dsimp only
  split
  · exact refl s
  · next l hl =>
    refine ite (fun _ => ?_) fun _ => refl s
    split
    · next hk =>
      refine passEnd s st _ fun hf => ?_
      obtain ⟨henergy, hop⟩ := hf.1 st
      obtain ⟨hmin, hj⟩ := hop l hl
      refine ⟨henergy, hmin hk, ?_⟩
      show (l.judge.getD ⟨0, 0, 0, 0⟩).learnCount ≤ 16
      cases h : l.judge with
      | none => simp
      | some j => exact hj j h
    · exact dressEnd ..

theorem finish (st : Fin 6) (x : MonitorState) : Moves w s (s.finish st x) := (monitorTo ..).trans (endProcessing ..)

theorem signalConflict (st : Fin 6) (k : Option OpKind) : Moves w s (s.signalConflict st k) := by
  refine (monitorTo s st .conflict).trans ?_
  unfold State.signalConflict
  dsimp only
  split <;> exact notify ..

theorem takeFalls (st : Fin 6) (e : Edges) : Moves w s (s.takeFalls st e) := by
  unfold State.takeFalls
  split
  · exact ite (fun _ => finish ..) fun _ => refl s
  · exact ite (fun _ => finish ..) fun _ => refl s
  all_goals exact refl s

theorem takePartEnd (st : Fin 6) (e : Edges) : Moves w s (s.takePartEnd st e) := by
  refine ite (fun _ => ?_) fun _ => refl s
  split
  · exact (finish s st .settling).trans (partEnd ..)
  · exact (finish s st .settling).trans (partEnd ..)
  · exact partEnd ..
  · exact partEnd ..
  · exact partEnd ..
  · exact refl s

theorem bothLowTest (st : Fin 6) : Moves w s (s.bothLowTest st) := ite (fun _ => monitorTo ..) fun _ => refl s

theorem startPass (st : Fin 6) : Moves w s (s.startPass st) := by
  refine modifyMonitor s st _ fun hf => Monitor.inRange_start _ (fun _ => hf.2.1 st) fun j hj => ?_
  obtain ⟨t, ht, rfl⟩ := Option.map_eq_some_iff.1 hj
  have := hf.tool ht
  unfold Tool.inRange at this
  exact (show t.learnCount ≤ 16 by omega)

theorem startDress (st : Fin 6) : Moves w s (s.startDress st) :=
  modifyMonitor s st _ fun _ => Monitor.inRange_start _ (fun h => by cases h) fun _ h => by cases h

theorem takeRises (st : Fin 6) (e : Edges) : Moves w s (s.takeRises st e) := by
  unfold State.takeRises
  split
  · split
    · exact signalConflict ..
    · exact startPass ..
    · exact startDress ..
    · exact refl s
  · exact ite (fun _ => signalConflict ..) fun _ => refl s
  · exact ite (fun _ => signalConflict ..) fun _ => refl s
  all_goals exact refl s

theorem takeBurst (st : Fin 6) : Moves w s (s.takeBurst st) := by
  obtain ⟨_, h⟩ | ⟨l, _, h⟩ := s.takeBurst_cases st
  · rw [h]
  · rw [h]
    have mark : Moves w s (s.setMonitor st { s.monitor st with burstDone := true, burstCounter := 0, runPeak := 0 }) :=
      .single (.monitor s st _ fun hf => Monitor.inRange_of_eq (hf.monitor st) rfl rfl)
    exact (mark.trans (commitTool _ l.tool)).trans (takeDetection ..)

theorem takeChannelFault (st : Fin 6) (c : Channel) : Moves w s (s.takeChannelFault st c) := by
  have latch : Moves w s (s.setMonitor st ((s.monitor st).latchFault c)) :=
    .single (.monitor s st _ fun hf => Monitor.inRange_of_eq (hf.monitor st) (by cases c <;> rfl) (by cases c <;> rfl))
  unfold State.takeChannelFault
  dsimp only
  split
  · exact refl s
  · split
    · exact (latch.trans (setFlag ..)).trans (notify ..)
    · exact latch.trans (notify ..)

theorem channelFaultLatch (st : Fin 6) (c : Channel) : Moves w s (s.channelFaultLatch st c) :=
  ite (fun _ => takeChannelFault ..) fun _ => refl s

theorem captureWrite (st : Fin 6) (x : Code × Code) : Moves w s (s.captureWrite st x) := setCapture ..

theorem burstStage (st : Fin 6) (l : Latched) (ae : Code) : Moves w s (s.burstStage st l ae) := by
  refine (modifyMonitorAside s st _ ?_).trans (takeBurst ..)
  unfold Monitor.burstCheck
  split_ifs <;> exact ⟨rfl, rfl⟩

theorem stuckStage (st : Fin 6) (p ae : Code) : Moves w s (s.stuckStage st p ae) :=
  ((modifyMonitorAside _ _ _ ⟨rfl, rfl⟩).trans (takeChannelFault ..)).trans
    ((modifyMonitorAside _ _ _ ⟨rfl, rfl⟩).trans (takeChannelFault ..))

theorem markFault (st : Fin 6) : Moves w s (s.modifyMonitor st Monitor.markFault) := by
  refine modifyMonitorAside s st _ ?_
  unfold Monitor.markFault
  split <;> exact ⟨rfl, rfl⟩

theorem operationWork (st : Fin 6) (l : Latched) (p ae : Code) : Moves w s (s.operationWork st l p ae) := by
  unfold State.operationWork
  dsimp only
  refine Relation.ReflTransGen.trans ?_ (ite (fun _ => markFault ..) fun _ => refl _)
  refine Relation.ReflTransGen.trans ?_ (ite (fun _ => stuckStage ..) fun _ => refl _)
  refine Relation.ReflTransGen.trans ?_ (ite (fun _ => modifyMonitor _ st _ fun hf => Monitor.inRange_addEnergy (hf.monitor st) p)
    fun _ => refl _)
  refine Relation.ReflTransGen.trans ?_ (ite (fun _ => burstStage ..) fun _ => refl _)
  exact (captureWrite ..).trans (modifyMonitorAside _ _ _ ⟨rfl, rfl⟩)

theorem sampleWork (st : Fin 6) (p ae : Code) : Moves w s (s.sampleWork st p ae) := by
  unfold State.sampleWork
  split
  · exact refl s
  · exact captureWrite ..
  · exact captureWrite ..
  · exact captureWrite ..
  all_goals
    split
    · exact operationWork ..
    · exact captureWrite ..

theorem filterStep (st : Fin 6) (raw : Lines) : Moves w s (s.modifyMonitor st fun m => m.filterStep raw) := by
  refine modifyMonitorAside s st _ ?_
  unfold Monitor.filterStep
  split <;> exact ⟨rfl, rfl⟩

theorem takeSample (st : Fin 6) (p ae : Code) (raw : Lines) : Moves w s (s.takeSample st p ae raw) :=
  ite (fun _ => refl s) fun _ => (((((filterStep ..).trans (takeFalls ..)).trans (takePartEnd ..)).trans
    (bothLowTest ..)).trans (takeRises ..)).trans (sampleWork ..)

end Moves

end Sys2Proof.Machine
end

section
/-! What the requests, the frames, the events and the millisecond do, as runs of moves; and what a step can do. -/

namespace Sys2Proof.Machine

/-! ### Ranges of the records that the tool requests write (Table 1-1) -/

theorem clamp_bounds {lo hi v : Nat} (h : lo ≤ hi) : lo ≤ clamp lo hi v ∧ clamp lo hi v ≤ hi := by
  unfold clamp; split_ifs <;> omega

theorem setting_bounds {lo hi v : Nat} (h : lo ≤ hi) : lo ≤ (setting lo hi v).value ∧ (setting lo hi v).value ≤ hi :=
  clamp_bounds h

theorem settingOr_bounds {d lo hi v : Nat} (h : lo ≤ d ∧ d ≤ hi) :
    lo ≤ (settingOr d lo hi v).value ∧ (settingOr d lo hi v).value ≤ hi := by
  unfold settingOr
  split
  · exact h
  · exact setting_bounds (by omega)

theorem settingIf_bounds {b : Bool} {held lo hi v : Nat} (h : lo ≤ held ∧ held ≤ hi) :
    lo ≤ (settingIf b held lo hi v).value ∧ (settingIf b held lo hi v).value ≤ hi := by
  unfold settingIf
  split
  · exact setting_bounds (by omega)
  · exact h

theorem ClassRef.inRange_cleared : ClassRef.cleared.inRange := by simp [inRange, cleared]

theorem refsCleared_get (c : Fin 4) : refsCleared[c] = ClassRef.cleared := by simp [refsCleared]

/-- The record of a DEFINE_TOOL is in range when its tag is a 16-bit number. -/
theorem newTool_inRange (kind : Kind) {tag : Nat} (limit warn thr n l k low high stock depth nominal : Nat)
    (htag : tag < 65536) : (newTool kind tag limit warn thr n l k low high stock depth nominal).1.inRange := by
  have hlimit := setting_bounds (lo := 1) (hi := 4000000) (v := limit) (by decide)
  have hwarn := settingOr_bounds (d := 90) (lo := 50) (hi := 99) (v := warn) (by decide)
  have hthr := settingOr_bounds (d := 3000) (lo := 1) (hi := 4095) (v := thr) (by decide)
  have hn := settingOr_bounds (d := 8) (lo := 1) (hi := 64) (v := n) (by decide)
  have hl := settingOr_bounds (d := 4) (lo := 1) (hi := 16) (v := l) (by decide)
  have hk := settingOr_bounds (d := 4) (lo := 1) (hi := 8) (v := k) (by decide)
  have hlow := settingOr_bounds (d := 614) (lo := 128) (hi := 1023) (v := low) (by decide)
  have hhigh := settingOr_bounds (d := 1638) (lo := 1025) (hi := 8191) (v := high) (by decide)
  have hstock := setting_bounds (lo := 0) (hi := 20000) (v := stock) (by decide)
  have hdepth := settingOr_bounds (d := 5) (lo := 1) (hi := 200) (v := depth) (by decide)
  have hnominal := settingOr_bounds (d := 5) (lo := 1) (hi := 200) (v := nominal) (by decide)
  have hrefs : ∀ c : Fin 4, refsCleared[c].inRange := fun c => refsCleared_get c ▸ ClassRef.inRange_cleared
  cases kind <;> simp only [Tool.inRange, newTool] <;> simp_all [Tallies.zero]

/-- A record with some of its fields written by ADJUST_TOOL stays in range when the carried tag is a 16-bit number. -/
theorem Tool.adjusted_inRange {t : Tool} (h : t.inRange) {tag : Nat} (bits limit warn thr n l k low high depth : Nat)
    (htag : tag < 65536) : (t.adjusted bits tag limit warn thr n l k low high depth).1.inRange := by
  unfold inRange at h
  obtain ⟨gtag, glim, glim', gwarn, gwarn', gused, gthr, gthr', gn, gn', gl, gl', gk, gk', glow, glow', ghigh, ghigh', gstock,
    gcount, gwheel, gdresser, grefs, gtallies⟩ := h
  have hlimit := settingIf_bounds (b := bits.testBit 1) (v := limit) ⟨glim, glim'⟩
  have hwarn := settingIf_bounds (b := bits.testBit 2) (v := warn) ⟨gwarn, gwarn'⟩
  have hthr := settingIf_bounds (b := bits.testBit 3) (v := thr) ⟨gthr, gthr'⟩
  have hn := settingIf_bounds (b := bits.testBit 4) (v := n) ⟨gn, gn'⟩
  have hl := settingIf_bounds (b := bits.testBit 5) (v := l) ⟨gl, gl'⟩
  have hk := settingIf_bounds (b := bits.testBit 6) (v := k) ⟨gk, gk'⟩
  have hlow := settingIf_bounds (b := bits.testBit 7) (v := low) ⟨glow, glow'⟩
  have hhigh := settingIf_bounds (b := bits.testBit 8) (v := high) ⟨ghigh, ghigh'⟩
  have hdepth : t.kind = .wheel → 1 ≤ (settingIf (bits.testBit 9 && decide (t.kind = .wheel)) t.dressDepth 1 200 depth).value ∧
      (settingIf (bits.testBit 9 && decide (t.kind = .wheel)) t.dressDepth 1 200 depth).value ≤ 200 :=
    fun hw => settingIf_bounds ⟨(gwheel hw).1, (gwheel hw).2.1⟩
  have hnominal : t.kind = .dresser →
      1 ≤ (settingIf (bits.testBit 9 && decide (t.kind = .dresser)) t.nominalDepth 1 200 depth).value ∧
      (settingIf (bits.testBit 9 && decide (t.kind = .dresser)) t.nominalDepth 1 200 depth).value ≤ 200 :=
    fun hd => settingIf_bounds ⟨(gdresser hd).2.2.1, (gdresser hd).2.2.2⟩
  have htag' : (if bits.testBit 0 then tag else t.tag) < 65536 := by split <;> assumption
  have other : (t.kind = .wheel → (settingIf (bits.testBit 9 && decide (t.kind = .dresser)) t.nominalDepth 1 200 depth).value = 0) ∧
      (t.kind = .dresser → (settingIf (bits.testBit 9 && decide (t.kind = .wheel)) t.dressDepth 1 200 depth).value = 0) :=
    ⟨fun hw => by simp [settingIf, hw, (gwheel hw).2.2], fun hd => by simp [settingIf, hd, (gdresser hd).2.1]⟩
  have drop : ∀ c : Fin 4, (if t.refs[c].state = .learned then t.refs[c] else ClassRef.cleared).inRange := by
    intro c; split
    · exact grefs c
    · exact ClassRef.inRange_cleared
  unfold adjusted
  dsimp only
  split
  · simp only [inRange]
    exact ⟨htag', hlimit.1, hlimit.2, hwarn.1, hwarn.2, gused, hthr.1, hthr.2, hn.1, hn.2, hl.1, hl.2, hk.1, hk.2, hlow.1,
      hlow.2, hhigh.1, hhigh.2, gstock, gcount, fun hw => ⟨(hdepth hw).1, (hdepth hw).2, other.1 hw⟩,
      fun hd => ⟨(gdresser hd).1, other.2 hd, hnominal hd⟩, grefs, gtallies⟩
  · simp only [inRange, dropRuns, Fin.getElem_fin, perClass_get]
    exact ⟨htag', hlimit.1, hlimit.2, hwarn.1, hwarn.2, gused, hthr.1, hthr.2, hn.1, hn.2, hl.1, hl.2, hk.1, hk.2, hlow.1,
      hlow.2, hhigh.1, hhigh.2, gstock, gcount, fun hw => ⟨(hdepth hw).1, (hdepth hw).2, other.1 hw⟩,
      fun hd => ⟨(gdresser hd).1, other.2 hd, hnominal hd⟩, drop, gtallies⟩

theorem Tool.adjusted_seat (t : Tool) (bits tag limit warn thr n l k low high depth : Nat) :
    (t.adjusted bits tag limit warn thr n l k low high depth).1.kind = t.kind ∧
    (t.adjusted bits tag limit warn thr n l k low high depth).1.group = t.group ∧
    (t.adjusted bits tag limit warn thr n l k low high depth).1.placement = t.placement := by
  unfold adjusted; dsimp only; split <;> exact ⟨rfl, rfl, rfl⟩

/-- Clearing some of the references of a record keeps it in range. -/
theorem Tool.inRange_clearRefs {t : Tool} (h : t.inRange) {refs : Vector ClassRef 4}
    (hr : ∀ c : Fin 4, refs[c] = t.refs[c] ∨ refs[c] = ClassRef.cleared) : ({ t with refs := refs } : Tool).inRange := by
  unfold inRange at h ⊢
  have all : ∀ c : Fin 4, refs[c].inRange := by
    intro c
    rcases hr c with hc | hc <;> rw [hc]
    · exact h.2.2.2.2.2.2.2.2.2.2.2.2.2.2.2.2.2.2.2.2.2.2.1 c
    · exact ClassRef.inRange_cleared
  tauto

/-- A renewed record is in range, with a stock that its kind may have. -/
theorem Tool.inRange_renewed {t : Tool} (h : t.inRange) {stock : Nat} (hs : stock ≤ 20000)
    (hd : t.kind = .dresser → stock = 0) : (t.renewed stock).inRange := by
  unfold inRange at h ⊢
  have hrefs : ∀ c : Fin 4, refsCleared[c].inRange := fun c => refsCleared_get c ▸ ClassRef.inRange_cleared
  simp only [renewed]
  simp_all [Tallies.zero]

namespace Moves

variable {w : Prop} (s : State)

/-! ### The tool requests -/

theorem defineTool (tool kind tag limit warn thr n l k low high stock depth nominal : Nat) (hw : w → tag < 65536) :
    Moves w s (s.defineTool tool kind tag limit warn thr n l k low high stock depth nominal).state := by
  unfold State.defineTool
  split
  · next hn _ =>
    split
    · exact refl s
    · next hu =>
      refine (commitTool s tool).trans (.single (.define _ tool _ hu ?_ rfl rfl (Tool.conditionOk_forced _) fun h => ?_))
      · have := isToolNumber_iff.1 hn; omega
      · exact newTool_inRange _ _ _ _ _ _ _ _ _ _ _ _ (hw h)
  · exact refl s

theorem adjustTool (tool bits tag limit warn thr n l k low high depth : Nat) (hw : w → tag < 65536) :
    Moves w s (s.adjustTool tool bits tag limit warn thr n l k low high depth).state := by
  unfold State.adjustTool
  split
  · exact refl s
  · split
    · exact refl s
    · next t ht =>
      split
      · exact refl s
      · split
        · exact refl s
        · refine ((commitTool s tool).trans (recompute_setTool (t := t) (by simpa using ht) ?_)).trans (reportIfBecame ..)
          obtain ⟨hk, hg, hp⟩ := t.adjusted_seat bits tag limit warn thr n l k low high depth
          exact ⟨hk, hg, hp, fun h hf => Tool.adjusted_inRange (hf.tool (n := tool) (by simpa using ht)) _ _ _ _ _ _ _ _ _ _ (hw h)⟩

/-- A request that only looks at one defined tool moves nothing else. -/
theorem readTool (tool : Nat) : Moves w s (s.readTool tool).state := by
  unfold State.readTool
  split
  · split <;> exact refl s
  · exact refl s

theorem deleteTool (tool : Nat) : Moves w s (s.deleteTool tool).state := by
  unfold State.deleteTool
  split
  · split
    · exact refl s
    · next t ht =>
      split
      · exact refl s
      · split
        · exact refl s
        · next hp hg =>
          exact ((commitTool s tool).trans (.single (.erase _ tool t ht (not_not.1 hg) (not_not.1 hp)))).trans
            (withIncidents ..)
  · exact refl s

theorem renewTool (tool stock : Nat) : Moves w s (s.renewTool tool stock).state := by
  unfold State.renewTool
  split
  · split
    · exact refl s
    · next t ht =>
      split
      · exact refl s
      · refine Relation.ReflTransGen.trans ?_ (ite (fun _ => refl _) fun _ => eligibilityEvent ..)
        refine (commitTool s tool).trans (setTool ht ⟨rfl, rfl, rfl, fun _ => Tool.conditionOk_forced _, fun _ hf => ?_⟩)
        have hr := hf.tool (n := tool) ht
        have renewed : ∀ x, x ≤ 20000 → (t.kind = .dresser → x = 0) → (t.renewed x).forced.inRange :=
          fun x hx hd => Tool.inRange_renewed hr hx hd
        refine renewed _ ?_ ?_
        · unfold Tool.inRange at hr
          split
          · exact (setting_bounds (by decide)).2
          · exact (show t.stock ≤ 20000 by tauto)
        · intro hk
          unfold Tool.inRange at hr
          simp only [hk]
          tauto
  · exact refl s

theorem withdrawTool (tool : Nat) : Moves w s (s.withdrawTool tool).state := by
  unfold State.withdrawTool
  split
  · split
    · exact refl s
    · next t ht =>
      split
      · exact refl s
      · exact (commitTool s tool).trans (setTool ht (.ofCondition (s := s.commit _) (n := tool) ht .withdrawn fun _ => trivial))
  · exact refl s

theorem reinstateTool (tool : Nat) : Moves w s (s.reinstateTool tool).state := by
  unfold State.reinstateTool
  split
  · split
    · exact refl s
    · next t ht =>
      split
      · exact refl s
      · split
        · exact refl s
        · refine Relation.ReflTransGen.trans ((commitTool s tool).trans (setTool (t := t)
            (u := ({ t with refs := refsCleared } : Tool).forced) ht ⟨rfl, rfl, rfl, fun _ => Tool.conditionOk_forced _,
              fun _ hf => ?_⟩)) (reportIfEligible ..)
          exact Tool.inRange_clearRefs (hf.tool (n := tool) ht) fun c => .inr (refsCleared_get c)
  · exact refl s

theorem clearReference (tool selector : Nat) : Moves w s (s.clearReference tool selector).state := by
  unfold State.clearReference
  split
  · next picks _ _ =>
    split
    · exact refl s
    · next t ht =>
      refine (commitTool s tool).trans (setTool ht ⟨rfl, rfl, rfl, id, fun _ hf => ?_⟩)
      refine Tool.inRange_clearRefs (hf.tool (n := tool) ht) fun c => ?_
      simp only [Fin.getElem_fin, perClass_get]
      split
      · exact .inr rfl
      · exact .inl rfl
  · exact refl s

/-! ### The group requests -/

/-- A DEFINE_GROUP writes its group and then serves its list, if anything calls for it (R123). -/
theorem writeGroup_eq (group : Nat) (g : Group) : s.writeGroup group g =
    if s.makesEligible (s.regroup group g) group { g with waiting := s.waitingFor group g.chain } ||
        !(s.seatsAdded (g.chain.filter (· ∉ s.chainOf group))).isEmpty then
      (s.regroup group g).eligibilityEvent group
    else s.regroup group g := rfl

/-- A taken chain: at most eight different tool numbers, and at least one when it is cut from eight. -/
theorem chainArg_some {len : Nat} {chain c : List Nat} (h : chainArg len chain = some c) :
    c.length ≤ 8 ∧ c.Nodup ∧ (chain.length = 8 → 1 ≤ c.length) := by
  unfold chainArg at h
  dsimp only at h
  split at h
  · next hc =>
    obtain ⟨h1, h8, _, hnd⟩ := hc
    cases h
    exact ⟨by simp; omega, hnd, fun hl => by simp; omega⟩
  · cases h

/-- What a DEFINE_GROUP that is not refused has found of its chain (R122). -/
theorem refuseGroup_none {s : State} {group : Nat} {kind : Kind} {chain : List Nat} (h : s.refuseGroup group kind chain = none) :
    (∀ n ∈ chain, ∃ t, s.tool? n = some t ∧ t.kind = kind ∧ (t.group = 0 ∨ t.group = group)) ∧
    ∀ n ∈ s.droppedBy group chain, ∀ p ∈ s.waitingOf group, (s.position p).active ≠ n := by
  unfold State.refuseGroup at h
  split_ifs at h with hd hk hg
  refine ⟨fun n hn => ?_, fun n hn p hp => ?_⟩
  · simp only [List.any_eq_true, not_exists, not_and] at hd hk hg
    have hd' := hd n hn
    cases ht : s.tool? n with
    | none => simp [ht] at hd'
    | some t =>
      have hk' := hk n hn
      have hg' := hg n hn
      simp only [ht, decide_eq_true_eq, not_not, Bool.and_eq_true, not_and] at hk' hg'
      exact ⟨t, rfl, hk', by tauto⟩
  · unfold State.droppedBy State.chainOf at hn
    unfold State.waitingOf at hp
    split at h
    · next hnone => simp [hnone] at hn
    · next g hsome =>
      simp only [hsome] at hn hp
      split at h
      · cases h
      · next hb =>
        intro he
        refine hb (List.any_eq_true.2 ⟨n, hn, ?_⟩)
        simp only [State.waitsFor, Bool.or_eq_true, List.any_eq_true, decide_eq_true_eq]
        exact .inr ⟨p, hp, he⟩

theorem defineGroup (group kind len : Nat) (chain : List Nat) (policy margin action percent b un ov cl : Nat)
    (hw : w → chain.length = 8) :
    Moves w s (s.defineGroup group kind len chain policy margin action percent b un ov cl).state := by
  unfold State.defineGroup
  split
  · next k c pol a r hn _ hc _ _ _ =>
    split
    · exact refl s
    · next hr =>
      obtain ⟨h8, hnd, h1⟩ := chainArg_some hc
      obtain ⟨hdef, hfree⟩ := refuseGroup_none hr
      have written : Moves w s (s.regroup group
          ⟨k, c, pol, 0, (setting 0 100000 margin).value, a, (setting 0 50 percent).value, r, []⟩) :=
        .single (.regroup s group _ ⟨by have := isGroupNumber_iff.1 hn; omega, h8, hnd, rfl, hdef, hfree⟩
          fun h => h1 (hw h))
      show Moves w s (s.writeGroup group _)
      rw [writeGroup_eq]
      exact written.trans (ite (fun _ => eligibilityEvent ..) fun _ => refl _)
  · exact refl s

theorem readGroup (group : Nat) : Moves w s (s.readGroup group).state := by
  unfold State.readGroup
  split
  · split <;> exact refl s
  · exact refl s

theorem deleteGroup (group : Nat) : Moves w s (s.deleteGroup group).state := by
  unfold State.deleteGroup
  split
  · split
    · exact refl s
    · next g hg =>
      split
      · exact refl s
      · next hb => exact .single (.disband s group g hg (by simp at hb; exact hb.1))
  · exact refl s

theorem clearTables : Moves w s s.clearTables.state := by
  unfold State.clearTables
  split
  · exact refl s
  · next h => exact .trans (.single (.wipe s (by simpa using h))) (withIncidents ..)

/-! ### The station requests -/

theorem resetMonitor (st : Fin 6) (b : Bool) : Moves w s (s.resetMonitor st b) :=
  .trans (.single (.monitor s st _ fun _ => Monitor.inRange_fresh _)) (setCapture ..)

theorem movePresence (st : Fin 6) (b c : Bool) : Moves w s (s.movePresence st b c) := by
  unfold State.movePresence
  split
  · exact (resetMonitor ..).trans (setFlag ..)
  · exact ((resetMonitor ..).trans (setIncident ..)).trans (setFlag ..)
  all_goals exact refl s

theorem setStation (station present eMin blank airLimit stale action timeout : Nat) :
    Moves w s (s.setStation station present eMin blank airLimit stale action timeout).state := by
  unfold State.setStation
  split
  · next st p a _ _ _ =>
    split
    · exact refl s
    · refine .trans (.trans (commit s [.config st (s.config st)] (by simp [RetainedWrite.current])) (.single ?_))
        (movePresence ..)
      exact .config _ st _ (setting_bounds (by decide)).1
  · exact refl s

theorem readStation (station : Nat) : Moves w s (s.readStation station).state := by
  unfold State.readStation
  split <;> exact refl s

theorem condemnByVerdict (i : Incident) (b : Bool) : Moves w s (s.condemnByVerdict i b) :=
  ite (fun _ => (commitTool s _).trans (breakTool ..)) fun _ => refl s

theorem verdict (station judged : Nat) : Moves w s (s.verdict station judged).state := by
  unfold State.verdict
  split
  · split_ifs
    · exact refl s
    · exact refl s
    · exact refl s
    · exact ((condemnByVerdict ..).trans (setIncident ..)).trans (setCapture ..)
  · exact refl s

theorem atStation (station : Nat) (work : Fin 6 → Answer) (h : ∀ st, Moves w s (work st).state) :
    Moves w s (s.atStation station work).state := by
  unfold State.atStation
  split
  · exact refl s
  · split
    · exact h _
    · exact refl s

theorem takeStationReset (st : Fin 6) : Moves w s (s.takeStationReset st) := by
  unfold State.takeStationReset
  dsimp only
  refine Relation.ReflTransGen.trans ?_ (ite (fun _ => refl _) fun _ => reportIfEligible ..)
  refine Relation.ReflTransGen.trans ?_ (ite (fun _ => refl _) fun _ => reportIfEligible ..)
  exact .tail (((resetMonitor s st true).trans (setIncident ..)).trans (setFlag ..)) (.restart _ st)

theorem resumeStation (station : Nat) : Moves w s (s.resumeStation station).state :=
  atStation s station _ fun _ => (setFlag ..).trans (ite (fun _ => (resumeAt ..).trans (resumeAt ..)) fun _ => refl _)

theorem clearFault (station : Nat) : Moves w s (s.clearFault station).state :=
  atStation s station _ fun _ => (modifyMonitorAside _ _ _ ⟨rfl, rfl⟩).trans (setFlag ..)

theorem readCapture (station start : Nat) : Moves w s (s.readCapture station start).state := by
  refine atStation s station _ fun _ => ?_
  split <;> exact refl s

/-! ### The swap requests -/

theorem atPosition (position : Nat) (work : Fin 12 → Answer) (h : ∀ p, Moves w s (work p).state) :
    Moves w s (s.atPosition position work).state := by
  unfold State.atPosition
  split
  · exact refl s
  · split
    · exact h _
    · exact refl s

theorem reportToolChange (p : Fin 12) : Moves w s (s.reportToolChange p) := by
  rw [State.reportToolChange_eq]
  exact .single (.monitor _ _ _ fun hf => Monitor.inRange_afterToolChange (hf.monitor _) ..)

theorem mountReport (p : Fin 12) : Moves w s ((s.reportToolChange p).clearAir p) := by
  rw [State.mountReport_eq]
  exact .single (.monitor _ _ _ fun hf => Monitor.inRange_afterToolChange (hf.monitor _) ..)

/-- A MOUNT that is not refused finds an empty position and a stored tool of its kind (R148). -/
theorem refuseMount_none {s : State} {p : Fin 12} {tool : Nat} (h : s.refuseMount p tool = none) :
    ∃ t, s.tool? tool = some t ∧ (s.position p).state = .empty ∧ t.kind = seatKind p ∧ t.placement = .store := by
  unfold State.refuseMount at h
  split at h
  · cases h
  · next t ht =>
    split_ifs at h with he hk hp
    exact ⟨t, ht, not_not.1 he, not_not.1 hk, not_not.1 hp⟩

theorem mount (position tool : Nat) : Moves w s (s.mount position tool).state := by
  unfold State.mount
  split
  · refine atPosition s position _ fun p => ?_
    split
    · exact refl s
    · next h =>
      obtain ⟨t, ht, he, hk, hp⟩ := refuseMount_none h
      exact .trans (.single (.mount s p tool t ht he hk hp)) (mountReport ..)
  · exact refl s

theorem takeDismount (p : Fin 12) (he : (s.position p).state ≠ .empty) (ho : (s.position p).state ≠ .ordered)
    (ht : (s.position p).state ≠ .timedOut) : Moves w s (s.takeDismount p) := by
  rw [State.takeDismount_eq]
  exact (Relation.ReflTransGen.trans (.single (.dismount s p he ho ht)) (reportToolChange ..)).trans (reportIfEligible ..)

theorem dismount (position : Nat) : Moves w s (s.dismount position).state := by
  refine atPosition s position _ fun p => ?_
  split
  · exact refl s
  · exact refl s
  · exact refl s
  all_goals exact takeDismount s p (by simp [*]) (by simp [*]) (by simp [*])

theorem exchange (p : Fin 12) (u : Nat) (h : (s.position p).state = .ordered)
    (hu : u = (s.position p).sister ∨ s.isSubstitute (s.position p).sister u = true) : Moves w s (s.exchange p u) :=
  (Relation.ReflTransGen.trans (.single (.exchange s p u h hu)) (mountReport _ p)).trans (notify ..)

/-- After an exchange the position serves. -/
theorem exchange_state (p : Fin 12) (u : Nat) : ((s.exchange p u).position p).state = .serving := by
  unfold State.exchange
  dsimp only
  rw [State.mountReport_eq]
  simp

theorem confirmSwap (position tool : Nat) : Moves w s (s.confirmSwap position tool).state := by
  unfold State.confirmSwap
  split
  · refine atPosition s position _ fun p => ?_
    dsimp only
    split_ifs with _ ho hs hu
    · exact refl s
    · exact refl s
    · have served := exchange_state s p (s.position p).sister
      refine Relation.ReflTransGen.trans ((exchange s p _ (not_not.1 ho) (.inl rfl)).trans (ite (fun _ => ?_) fun _ => refl _))
        (reportIfEligible ..)
      exact selection _ p (by simp [served]) (by simp [served])
    · exact ((exchange s p tool (not_not.1 ho) (.inr hu)).trans (reportIfEligible ..)).trans (reportIfEligible ..)
    · exact refl s
  · exact refl s

theorem cancelSwap (position : Nat) : Moves w s (s.cancelSwap position).state := by
  refine atPosition s position _ fun p => ?_
  split
  · next h => exact .trans (.single (.cancel s p h)) (reportIfEligible ..)
  · exact refl s

theorem swapNow (position : Nat) : Moves w s (s.swapNow position).state := by
  refine atPosition s position _ fun p => ?_
  split
  · exact selection s p (by simp [*]) (by simp [*])
  · exact selection s p (by simp [*]) (by simp [*])
  · exact selection s p (by simp [*]) (by simp [*])
  · exact selection s p (by simp [*]) (by simp [*])
  all_goals exact refl s

/-! ### The notice requests -/

theorem fetchNotice : Moves w s s.fetchNotice.state := by
  unfold State.fetchNotice
  split
  · exact refl s
  · exact withNotices ..

theorem setAttention (u r l : Nat) : Moves w s (s.setAttention u r l).state := by
  unfold State.setAttention
  split
  · exact withNotices ..
  · exact refl s

/-! ### Requests, frames and events -/

/-- The work of a request is a run of moves. -/
theorem work {c : Instr} {f : State → Answer} (h : workOf c = some f) (hw : w → c.wf = true) : Moves w s (f s).state := by
  cases c <;> simp only [workOf, Option.some.injEq, reduceCtorEq] at h <;> subst h
  case defineTool => exact defineTool s _ _ _ _ _ _ _ _ _ _ _ _ _ _ fun h => by have := hw h; simp [Instr.wf] at this; omega
  case adjustTool => exact adjustTool s _ _ _ _ _ _ _ _ _ _ _ _ fun h => by have := hw h; simp [Instr.wf] at this; omega
  case readTool => exact readTool ..
  case deleteTool => exact deleteTool ..
  case renewTool => exact renewTool ..
  case withdrawTool => exact withdrawTool ..
  case reinstateTool => exact reinstateTool ..
  case clearReference => exact clearReference ..
  case defineGroup => exact defineGroup s _ _ _ _ _ _ _ _ _ _ _ _ fun h => by have := hw h; simp [Instr.wf] at this; omega
  case readGroup => exact readGroup ..
  case deleteGroup => exact deleteGroup ..
  case setStation => exact setStation ..
  case readStation => exact readStation ..
  case mount => exact mount ..
  case dismount => exact dismount ..
  case confirmSwap => exact confirmSwap ..
  case cancelSwap => exact cancelSwap ..
  case swapNow => exact swapNow ..
  case verdict => exact verdict ..
  case hold => exact atStation s _ _ fun _ => setFlag ..
  case resume => exact resumeStation ..
  case clearFault => exact clearFault ..
  case resetStation => exact atStation s _ _ fun _ => takeStationReset ..
  case fetchNotice => exact fetchNotice s
  case setAttention => exact setAttention ..
  case readCapture => exact readCapture ..
  case clearTables => exact clearTables s
  case resetSupervisor => exact withLink ..

theorem serve (f : State → Answer) (h : ∀ u, Moves w u (f u).state) : Moves w s (s.serve f) := by
  rw [State.serve_eq]
  exact (((beginEvent s).trans (withLink ..)).trans (h _)).trans (withLink ..)

theorem request (f : State → Answer) (h : ∀ u, Moves w u (f u).state) : Moves w s (s.request f) :=
  ite (fun _ => serve s f h) fun _ => refl s

theorem event (f : State → State) (h : ∀ u, Moves w u (f u)) : Moves w s (s.event f) :=
  ite (fun _ => (beginEvent s).trans (h _)) fun _ => refl s

end Moves

/-! ### Requests read from frames can be sent -/

/-- A field of a body is a number of its width. -/
theorem field_lt (body : List Byte) (i count : Nat) : field body i count < 256 ^ count := by
  have grows : ∀ (bytes : List Byte) (acc : Nat),
      bytes.foldl (fun acc (b : Byte) => acc * 256 + b.toNat) acc < (acc + 1) * 256 ^ bytes.length := by
    intro bytes
    induction bytes with
    | nil => simp
    | cons b rest ih =>
      intro acc
      refine (ih _).trans_le ?_
      rw [List.length_cons, Nat.pow_succ', ← Nat.mul_assoc]
      have := b.isLt
      exact Nat.mul_le_mul_right _ (show acc * 256 + b.toNat + 1 ≤ (acc + 1) * 256 by omega)
  have h := grows ((body.drop i).take count) 0
  simp only [Nat.zero_add, Nat.one_mul] at h
  exact h.trans_le (Nat.pow_le_pow_right (by decide) (by simp))

/-- A request that a frame carries can be sent. -/
theorem decodeRequest_wf {code : Nat} {body : List Byte} {c : Instr} (h : decodeRequest code body = some c) :
    c.wf = true := by
  have h1 : ∀ i, field body i 1 < 256 := fun i => field_lt body i 1
  have h2 : ∀ i, field body i 2 < 65536 := fun i => field_lt body i 2
  have h4 : ∀ i, field body i 4 < 4294967296 := fun i => field_lt body i 4
  unfold decodeRequest at h
  split at h <;> simp only [Option.some.injEq, reduceCtorEq] at h <;> subst h <;> simp [Instr.wf, h1, h2, h4]

namespace Moves

variable {w : Prop} (s : State)

theorem frameWork (code : Nat) (body : List Byte) : Moves w s (frameWork code body s).state := by
  unfold Machine.frameWork
  split
  · exact refl s
  · split
    · exact refl s
    · split
      · next f hf =>
        obtain ⟨c, hc, hw⟩ := Option.bind_eq_some_iff.1 hf
        exact work s hw fun _ => decodeRequest_wf hc
      · exact refl s

theorem hunt : Moves w s s.hunt := withLink ..

theorem takeFrame (frame : List Byte) : Moves w s (s.takeFrame frame) :=
  ite (fun _ => hunt s) fun _ => ite (fun _ => hunt s) fun _ => serve s _ fun u => frameWork u _ _

theorem receive (char : Byte) (error : Bool) : Moves w s (s.receive char error) := by
  unfold State.receive
  split
  · exact ite (fun _ => withLink ..) fun _ => refl s
  · exact ite (fun _ => hunt s) fun _ => ite (fun _ => hunt s) fun _ => ite (fun _ => takeFrame ..) fun _ => withLink ..
  · exact refl s
  · exact refl s

theorem receiveAll (chars : List Byte) : Moves w s (s.receiveAll chars) := by
  unfold State.receiveAll
  induction chars generalizing s with
  | nil => exact refl s
  | cons c rest ih => exact (receive s c false).trans (ih _)

theorem gapPassed : Moves w s s.gapPassed := by
  unfold State.gapPassed
  split
  · exact hunt s
  all_goals exact refl s

theorem replySent : Moves w s s.replySent := by
  unfold State.replySent
  split
  · exact ite (fun _ => (Relation.ReflTransGen.tail (hunt s) (.reset _)).trans (withLink ..)) fun _ => hunt s
  all_goals exact refl s

theorem takePowerOn (x : Straps) : Moves w s (s.takePowerOn x) :=
  (Relation.ReflTransGen.tail ((beginEvent s).trans (withPowered ..)) (.reset _)).trans (withLink ..)

theorem countDown (p : Fin 12) : Moves w s (s.countDown p) := by
  refine ite (fun h => ite (fun _ => timerExpiry s p) fun _ => .single (.countDown s p _ h)) fun _ => refl s

theorem countGap : Moves w s s.countGap :=
  ite (fun _ => ite (fun _ => gapPassed s) fun _ => withLink ..) fun _ => refl s

theorem countDowns (ps : List (Fin 12)) : Moves w s (ps.foldl State.countDown s) := by
  induction ps generalizing s with
  | nil => exact refl s
  | cons p rest ih => exact (countDown s p).trans (ih _)

theorem millisecond : Moves w s s.millisecond := by
  unfold State.millisecond
  exact ((withClock ..).trans (countDowns ..)).trans (countGap ..)

end Moves

/-! ### What a step can do -/

/-- A command answers a next state, by a power failure or by a run of moves. -/
theorem exec_moves (c : Instr) (s : State) : ∃ t, exec c s = .next t ∧
    ((∃ k, c = .powerFail k ∧ s.powered = true ∧ t = s.takePowerFail k) ∨ Moves (c.wf = true) s t) := by
  have ofRequest : ∀ {f : State → Answer}, workOf c = some f → Moves (c.wf = true) s (s.request f) :=
    fun hf => Moves.request s _ fun u => Moves.work u hf id
  cases c
  case powerOn x => exact ⟨_, rfl, .inr (Moves.takePowerOn s x)⟩
  case powerFail k =>
    refine ⟨_, rfl, ?_⟩
    split
    · exact .inl ⟨k, rfl, ‹_›, rfl⟩
    · exact .inr (Moves.refl s)
  case sample st p ae raw => exact ⟨_, rfl, .inr (Moves.event s _ fun u => Moves.takeSample u st p ae raw)⟩
  case burst st => exact ⟨_, rfl, .inr (Moves.event s _ fun u => Moves.takeBurst u st)⟩
  case channelFaultLatch st ch => exact ⟨_, rfl, .inr (Moves.event s _ fun u => Moves.channelFaultLatch u st ch)⟩
  case captureFreeze st => exact ⟨_, rfl, .inr (Moves.event s _ fun u => Moves.setCapture u st _)⟩
  case swapTimerExpiry p => exact ⟨_, rfl, .inr (Moves.event s _ fun u => Moves.timerExpiry u p)⟩
  case requestFrame frame => exact ⟨_, rfl, .inr (Moves.event s _ fun u => Moves.receiveAll u frame)⟩
  case gapTimeout => exact ⟨_, rfl, .inr (Moves.event s _ Moves.gapPassed)⟩
  case replyComplete => exact ⟨_, rfl, .inr (Moves.event s _ Moves.replySent)⟩
  case receivedCharacter ch e => exact ⟨_, rfl, .inr (Moves.event s _ fun u => Moves.receive u ch e)⟩
  all_goals exact ⟨_, rfl, .inr (ofRequest rfl)⟩

/-- What every move and every power failure keep, every step keeps; `w` holds where every waiting command can be sent. -/
theorem step_keeps {I : State → Prop} {s t : State} (h : step s = .next t)
    (hm : ∀ w : Prop, ((∀ c ∈ s.pending, c.wf = true) → w) → ∀ a b, Move w a b → I a → I b)
    (hpending : ∀ rest, (∀ c ∈ rest, c ∈ s.pending) → I s → I (s.withPending rest))
    (hfail : ∀ a k, t = State.takePowerFail a k → I a → I t) (hs : I s) : I t := by
  unfold step at h
  split at h
  · cases h
    exact (Moves.event s _ Moves.millisecond).keeps (hm True fun _ => trivial) hs
  · next c rest hp =>
    obtain ⟨u, hu, hcase⟩ := exec_moves c (s.withPending rest)
    rw [hu] at h
    cases h
    have hrest := hpending rest (fun c hc => hp ▸ List.mem_cons_of_mem _ hc) hs
    rcases hcase with ⟨k, _, _, hk⟩ | hmoves
    · exact hfail _ k hk hrest
    · exact hmoves.keeps (hm _ fun hw => hw c (hp ▸ List.mem_cons_self ..)) hrest

end Sys2Proof.Machine
end

section
/-! What the moves leave as it was: the queue, and the configurations and monitors but for the moves that write them. -/

namespace Sys2Proof.Machine

namespace State

variable (s : State)

/-! ### What the tables' own writes leave as it was -/

theorem setGroupField_frame (v : Nat) (ns : List Nat) : onlyChanges [.tools] s (s.setGroupField v ns) := by
  unfold setGroupField
  induction ns generalizing s with
  | nil => exact fun x _ => by cases x <;> rfl
  | cons n rest ih =>
    refine onlyChanges_trans ?_ (ih _)
    exact onlyChanges_of (by simp) (by simp) (by simp) (by simp) (by simp) (by simp) (by simp) (by simp) (by simp) (by simp)
      (by simp) (by simp) (by simp) (by simp)

@[simp] theorem setGroupField_pending (v : Nat) (ns : List Nat) : (s.setGroupField v ns).pending = s.pending :=
  setGroupField_frame s v ns .pending (by simp)
@[simp] theorem setGroupField_configs (v : Nat) (ns : List Nat) : (s.setGroupField v ns).configs = s.configs :=
  setGroupField_frame s v ns .configs (by simp)
@[simp] theorem setGroupField_monitors (v : Nat) (ns : List Nat) : (s.setGroupField v ns).monitors = s.monitors :=
  setGroupField_frame s v ns .monitors (by simp)
@[simp] theorem setGroupField_groups (v : Nat) (ns : List Nat) : (s.setGroupField v ns).groups = s.groups :=
  setGroupField_frame s v ns .groups (by simp)
@[simp] theorem setGroupField_positions (v : Nat) (ns : List Nat) : (s.setGroupField v ns).positions = s.positions :=
  setGroupField_frame s v ns .positions (by simp)
@[simp] theorem setGroupField_journal (v : Nat) (ns : List Nat) : (s.setGroupField v ns).journal = s.journal :=
  setGroupField_frame s v ns .journal (by simp)

/-- A leaving position changes its group's record alone. -/
theorem leaveWaiting_frame (p : Fin 12) : onlyChanges [.groups] s (s.leaveWaiting p) := by
  unfold leaveWaiting
  split
  · exact onlyChanges_of (by simp) (by simp) (by simp) (by simp) (by simp) (by simp) (by simp) (by simp) (by simp) (by simp)
      (by simp) (by simp) (by simp) (by simp)
  · exact fun x _ => by cases x <;> rfl

@[simp] theorem leaveWaiting_pending (p : Fin 12) : (s.leaveWaiting p).pending = s.pending := leaveWaiting_frame s p .pending (by simp)
@[simp] theorem leaveWaiting_configs (p : Fin 12) : (s.leaveWaiting p).configs = s.configs := leaveWaiting_frame s p .configs (by simp)
@[simp] theorem leaveWaiting_monitors (p : Fin 12) : (s.leaveWaiting p).monitors = s.monitors := leaveWaiting_frame s p .monitors (by simp)
@[simp] theorem leaveWaiting_tools (p : Fin 12) : (s.leaveWaiting p).tools = s.tools := leaveWaiting_frame s p .tools (by simp)
@[simp] theorem leaveWaiting_positions (p : Fin 12) : (s.leaveWaiting p).positions = s.positions := leaveWaiting_frame s p .positions (by simp)
@[simp] theorem leaveWaiting_journal (p : Fin 12) : (s.leaveWaiting p).journal = s.journal := leaveWaiting_frame s p .journal (by simp)
@[simp] theorem leaveWaiting_toolGet (p : Fin 12) (n : Nat) : (s.leaveWaiting p).tool? n = s.tool? n :=
  congrArg (tableGet · n) (leaveWaiting_tools s p)
@[simp] theorem leaveWaiting_position (p q : Fin 12) : (s.leaveWaiting p).position q = s.position q :=
  congrArg (fun v : Vector Position 12 => v[q]) (leaveWaiting_positions s p)

@[simp] theorem place_pending (n : Nat) (x : Placement) : (s.place n x).pending = s.pending := modifyTool_pending ..
@[simp] theorem place_configs (n : Nat) (x : Placement) : (s.place n x).configs = s.configs := modifyTool_configs ..
@[simp] theorem place_monitors (n : Nat) (x : Placement) : (s.place n x).monitors = s.monitors := modifyTool_monitors ..
@[simp] theorem place_groups (n : Nat) (x : Placement) : (s.place n x).groups = s.groups := modifyTool_groups ..
@[simp] theorem place_positions (n : Nat) (x : Placement) : (s.place n x).positions = s.positions := modifyTool_positions ..
@[simp] theorem place_journal (n : Nat) (x : Placement) : (s.place n x).journal = s.journal := modifyTool_journal ..
@[simp] theorem place_groupGet (n : Nat) (x : Placement) (m : Nat) : (s.place n x).group? m = s.group? m := modifyTool_groupGet ..
@[simp] theorem place_position (n : Nat) (x : Placement) (p : Fin 12) : (s.place n x).position p = s.position p := modifyTool_position ..
@[simp] theorem place_toolGet (n : Nat) (x : Placement) (m : Nat) :
    (s.place n x).tool? m = if m = n then (s.tool? n).map fun t => { t with placement := x } else s.tool? m := modifyTool_toolGet ..

/-- A released sister changes its own record, with a commit. -/
theorem releaseAt_frame (p : Fin 12) : onlyChanges [.tools, .journal] s (s.releaseAt p) := by
  unfold releaseAt releaseSister
  split
  · exact fun x _ => by cases x <;> rfl
  · exact onlyChanges_of (by simp) (by simp) (by simp) (by simp) (by simp) (by simp) (by simp) (by simp) (by simp) (by simp)
      (by simp) (by simp) (by simp) (by simp)

theorem leaveAll_frame (p : Fin 12) : onlyChanges [.groups] s (s.leaveAll p) := fun x _ => by cases x <;> simp_all [Part.same, leaveAll]

theorem setPosition_frame (p : Fin 12) (x : Position) : onlyChanges [.positions] s (s.setPosition p x) :=
  fun x _ => by cases x <;> simp_all [Part.same]

@[simp] theorem rebuildSeats_tools (st : Fin 6) : (s.rebuildSeats st).tools = s.tools := rfl
@[simp] theorem rebuildSeats_groups (st : Fin 6) : (s.rebuildSeats st).groups = s.groups := rfl
@[simp] theorem rebuildSeats_journal (st : Fin 6) : (s.rebuildSeats st).journal = s.journal := rfl

/-- RESET_STATION's writes to lists, tools and positions touch nothing else. -/
theorem restartSeats_frame (st : Fin 6) : onlyChanges [.tools, .groups, .positions, .journal] s (s.restartSeats st) := by
  have mono {l : List Part} {a b : State} (h : onlyChanges l a b) (hl : l ⊆ [.tools, .groups, .positions, .journal]) :=
    onlyChanges_mono h hl
  unfold restartSeats restartTables rebuildSeats
  dsimp only
  refine onlyChanges_trans (onlyChanges_trans (onlyChanges_trans (onlyChanges_trans (onlyChanges_trans
    (mono (leaveAll_frame _ _) ?_) (mono (leaveAll_frame _ _) ?_)) (mono (releaseAt_frame _ _) ?_))
    (mono (releaseAt_frame _ _) ?_)) (mono (setPosition_frame _ _ _) ?_)) (mono (setPosition_frame _ _ _) ?_) <;> decide

/-! ### Reads after the writes of several records -/

theorem setGroupField_toolGet (v : Nat) (ns : List Nat) (m : Nat) :
    (s.setGroupField v ns).tool? m = if m ∈ ns then (s.tool? m).map fun t => { t with group := v } else s.tool? m := by
  unfold setGroupField
  induction ns generalizing s with
  | nil => simp
  | cons n rest ih =>
    rw [List.foldl_cons, ih]
    by_cases hn : m = n
    · subst hn
      by_cases hr : m ∈ rest <;> simp [hr, Option.map_map, Function.comp_def]
    · simp [hn]

@[simp] theorem setGroupField_groupGet (v : Nat) (ns : List Nat) (m : Nat) : (s.setGroupField v ns).group? m = s.group? m :=
  congrArg (tableGet · m) (setGroupField_groups s v ns)

@[simp] theorem setGroupField_position (v : Nat) (ns : List Nat) (p : Fin 12) : (s.setGroupField v ns).position p = s.position p :=
  congrArg (fun x : Vector Position 12 => x[p]) (setGroupField_positions s v ns)

@[simp] theorem leaveAll_toolGet (p : Fin 12) (n : Nat) : (s.leaveAll p).tool? n = s.tool? n := rfl

@[simp] theorem leaveAll_position (p q : Fin 12) : (s.leaveAll p).position q = s.position q := rfl

@[simp] theorem leaveAll_groupGet (p : Fin 12) (n : Nat) : (s.leaveAll p).group? n = (s.group? n).map fun g => g.leave p :=
  tableGet_tableMap ..

@[simp] theorem releaseAt_groupGet (p : Fin 12) (n : Nat) : (s.releaseAt p).group? n = s.group? n :=
  congrArg (tableGet · n) (releaseAt_frame s p .groups (by decide))

@[simp] theorem releaseAt_position (p q : Fin 12) : (s.releaseAt p).position q = s.position q :=
  congrArg (fun x : Vector Position 12 => x[q]) (releaseAt_frame s p .positions (by decide))

theorem releaseAt_toolGet (p : Fin 12) (n : Nat) : (s.releaseAt p).tool? n =
    if n = (s.position p).sister ∧ n ≠ 0 then (s.tool? n).map fun t => { t with placement := .store } else s.tool? n := by
  unfold releaseAt releaseSister
  by_cases h0 : (s.position p).sister = 0
  · simp only [h0, if_true]
    by_cases hn : n = 0 <;> simp [hn]
  · by_cases hn : n = (s.position p).sister
    · subst hn; simp [h0]
    · simp [h0, hn]

@[simp] theorem rebuildSeats_toolGet (st : Fin 6) (n : Nat) : (s.rebuildSeats st).tool? n = s.tool? n := rfl

@[simp] theorem rebuildSeats_groupGet (st : Fin 6) (n : Nat) : (s.rebuildSeats st).group? n = s.group? n := rfl

theorem resetBlocks_toolGet (n : Nat) : s.resetBlocks.tool? n = (s.tool? n).map Tool.released := tableGet_tableMap ..

theorem resetBlocks_groupGet (n : Nat) : s.resetBlocks.group? n = (s.group? n).map fun g => { g with waiting := [] } :=
  tableGet_tableMap ..

/-- A leaving position leaves the list of its tool's group alone. -/
theorem leaveWaiting_groupGet (p : Fin 12) (n : Nat) : (s.leaveWaiting p).group? n =
    if (s.tool? (s.position p).active).map Tool.group = some n then (s.group? n).map fun g => g.leave p else s.group? n := by
  unfold leaveWaiting
  cases ht : s.tool? (s.position p).active with
  | none => simp
  | some t =>
    by_cases hn : n = t.group
    · subst hn; simp
    · simp [hn, Ne.symm hn]

end State

/-! ### What the moves leave as it was -/

/-- No move changes the queue. -/
theorem Move.pending {w : Prop} {s t : State} (h : Move w s t) : t.pending = s.pending := by
  cases h with
  | aside h => exact h .pending (by decide)
  | give p gno g i => exact (Worked.giveSister ..).pending
  | restart st => exact State.restartSeats_frame s st .pending (by decide)
  | mount p n => simp [State.seatTool]
  | dismount p => simp [State.unseat]
  | exchange p u => simp [State.swapSeats]
  | cancel p => simp [State.dropSister]
  | regroup group g => simp [State.regroup]
  | disband group g => simp [State.disband]
  | waitGrouped p u x => simp [State.joinAs, State.rest]
  | serveAgain p => simp [State.backToServing, State.rest]
  | _ => rfl

/-- A move leaves the configurations, or writes one with an E_min of at least 1. -/
theorem Move.configs {w : Prop} {s t : State} (h : Move w s t) :
    t.configs = s.configs ∨ ∃ st c, 1 ≤ c.eMin ∧ t = s.setConfig st c := by
  cases h with
  | config st c h => exact .inr ⟨st, c, h, rfl⟩
  | aside h => exact .inl (h .configs (by decide))
  | give p gno g i => exact .inl (Worked.giveSister ..).configs
  | restart st => exact .inl (State.restartSeats_frame s st .configs (by decide))
  | mount p n => simp [State.seatTool]
  | dismount p => simp [State.unseat]
  | exchange p u => simp [State.swapSeats]
  | cancel p => simp [State.dropSister]
  | regroup group g => simp [State.regroup]
  | disband group g => simp [State.disband]
  | waitGrouped p u x => simp [State.joinAs, State.rest]
  | serveAgain p => simp [State.backToServing, State.rest]
  | _ => exact .inl rfl

/-- A move leaves the monitors, or writes one in range, or writes them all fresh. -/
theorem Move.monitors {w : Prop} {s t : State} (h : Move w s t) :
    t.monitors = s.monitors ∨ (∃ st m, (s.feedOk → m.inRange) ∧ t = s.setMonitor st m) ∨ t = s.resetBlocks := by
  cases h with
  | monitor st m h => exact .inr (.inl ⟨st, m, h, rfl⟩)
  | reset => exact .inr (.inr rfl)
  | aside h => exact .inl (h .monitors (by decide))
  | give p gno g i => exact .inl (State.giveSister_monitors ..)
  | restart st => exact .inl (State.restartSeats_frame s st .monitors (by decide))
  | mount p n => simp [State.seatTool]
  | dismount p => simp [State.unseat]
  | exchange p u => simp [State.swapSeats]
  | cancel p => simp [State.dropSister]
  | regroup group g => simp [State.regroup]
  | disband group g => simp [State.disband]
  | waitGrouped p u x => simp [State.joinAs, State.rest]
  | serveAgain p => simp [State.backToServing, State.rest]
  | _ => exact .inl rfl

theorem Moves.pending {w : Prop} {s t : State} (h : Moves w s t) : t.pending = s.pending :=
  h.keeps (I := fun u => u.pending = s.pending) (fun _ _ hm hp => hm.pending.trans hp) rfl

namespace State

/-! ### What a power failure leaves as it was -/

theorem putBack_frame (s : State) (x : RetainedWrite) : onlyChanges [.tools, .groups, .configs] s (s.putBack x) := by
  intro part hp
  rcases x with ⟨n, _ | t⟩ | ⟨n, _ | g⟩ | ⟨st, c⟩ | ⟨ts, gs⟩ <;> cases part <;> first | rfl | simp at hp

/-- Undoing commits touches the retained records alone. -/
theorem undoCommits_frame (s : State) (k : Nat) (j : List Commit) :
    onlyChanges [.tools, .groups, .configs] s (s.undoCommits k j) := by
  rw [undoCommits_eq]
  generalize (j.take k).flatten = ws
  induction ws generalizing s with
  | nil => exact fun x _ => by cases x <;> rfl
  | cons x rest ih => exact onlyChanges_trans (putBack_frame s x) (ih _)

theorem takePowerFail_frame (s : State) (k : Nat) :
    onlyChanges [.powered, .tools, .groups, .configs, .journal] s (s.takePowerFail k) := by
  refine onlyChanges_trans (onlyChanges_mono (undoCommits_frame s k s.journal) (by decide)) fun x hx => ?_
  cases x <;> first | rfl | simp at hx

end State

/-! ### The commands -/

/-- Without power every command but POWER_ON leaves the state as it is (log entry 6). -/
theorem exec_of_unpowered {c : Instr} {s : State} (h : s.powered = false) (hc : ∀ x, c ≠ .powerOn x) :
    exec c s = .next s := by
  cases c
  case powerOn x => exact absurd rfl (hc x)
  case powerFail k => exact congrArg Host.Outcome.next (by simp [h])
  case sample | burst | channelFaultLatch | captureFreeze | swapTimerExpiry | requestFrame | gapTimeout | replyComplete
    | receivedCharacter => exact congrArg Host.Outcome.next (State.event_of_unpowered h _)
  all_goals exact congrArg Host.Outcome.next (State.request_of_unpowered h _)

/-- Settles O3: every command is a power failure or a run of moves, and neither touches the queue. -/
theorem everyCommandAnswersAndKeepsQueue : Obligations.EveryCommandAnswersAndKeepsQueue := by
  intro c s
  obtain ⟨t, ht, hcase⟩ := exec_moves c s
  refine ⟨t, ht, ?_, fun hp hc => ?_⟩
  · rcases hcase with ⟨k, _, _, rfl⟩ | hm
    · exact State.takePowerFail_frame s k .pending (by decide)
    · exact hm.pending
  · rw [exec_of_unpowered hp hc] at ht
    cases ht
    rfl

end Sys2Proof.Machine
end

section
/-! The invariants of the tool records, shown for the moves: the tables in canonical form, the conditions in agreement with
the lives, the records in their ranges; each also for what a power failure would put back. -/

namespace Sys2Proof.Machine

/-! ### What stands in a table after a write -/

theorem mem_tablePut {α : Type} {t : Table α} {n : Nat} {v : α} {e : Nat × α} (h : e ∈ tablePut t n v) :
    e = (n, v) ∨ e ∈ t := by
  induction t with
  | nil => simpa [tablePut] using h
  | cons x rest ih =>
    obtain ⟨k, w⟩ := x
    simp only [tablePut] at h
    split_ifs at h <;> simp only [List.mem_cons] at h ⊢ <;> tauto

theorem mem_tableErase {α : Type} {t : Table α} {n : Nat} {e : Nat × α} (h : e ∈ tableErase t n) : e ∈ t := by
  induction t with
  | nil => exact h
  | cons x rest ih =>
    obtain ⟨k, w⟩ := x
    simp only [tableErase] at h
    split_ifs at h <;> simp only [List.mem_cons] at h ⊢ <;> tauto

theorem tableMap_eq_map {α : Type} (f : α → α) (t : Table α) : tableMap f t = t.map fun e => (e.1, f e.2) := by
  induction t with
  | nil => rfl
  | cons x rest ih => simp [tableMap, ih]

/-! ### Commits of records as they stand -/

@[simp] theorem State.oldTool_current (s : State) (n : Nat) : (s.oldTool n).current s := rfl

@[simp] theorem State.oldGroup_current (s : State) (n : Nat) : (s.oldGroup n).current s := rfl

theorem State.olds_current (s : State) (group : Nat) (ns : List Nat) :
    ∀ x ∈ s.oldGroup group :: ns.map s.oldTool, x.current s := by
  intro x hx
  rcases List.mem_cons.1 hx with rfl | hx
  · rfl
  · obtain ⟨n, _, rfl⟩ := List.mem_map.1 hx
    rfl

/-- The releases that a reset commits are of records as they stand. -/
theorem State.releases_current {s : State} (h : tableWf s.tools = true) :
    ∀ c ∈ (s.tools.filter fun e => e.2.isReserved).map fun e => [RetainedWrite.tool e.1 (some e.2)], ∀ x ∈ c, x.current s := by
  intro c hc x hx
  obtain ⟨⟨n, t⟩, he, rfl⟩ := List.mem_map.1 hc
  obtain rfl := List.mem_singleton.1 hx
  exact (tableGet_of_mem h (List.mem_of_mem_filter he)).symm

/-- A released sister leaves at most one commit, of its record as it stood. -/
theorem State.releaseAt_journal (s : State) (p : Fin 12) :
    (s.releaseAt p).journal = s.journal ∨ (s.releaseAt p).journal = [s.oldTool (s.position p).sister] :: s.journal := by
  unfold releaseAt releaseSister
  split
  · exact .inl rfl
  · exact .inr (by simp)

/-- A move adds to the journal only commits of what the records hold, at a reset of a station after the release of one
sister. -/
theorem Move.journal {w : Prop} {s t : State} (m : Move w s t) (h : tableWf s.tools = true) :
    ∀ c ∈ t.journal, c ∈ s.journal ∨ ∀ x ∈ c, x.current s ∨ ∃ p, x.current (s.releaseAt p) := by
  have cons : ∀ (ws : List RetainedWrite), (∀ x ∈ ws, x.current s) → ∀ c ∈ ws :: s.journal,
      c ∈ s.journal ∨ ∀ x ∈ c, x.current s ∨ ∃ p, x.current (s.releaseAt p) := by
    intro ws hws c hc
    rcases List.mem_cons.1 hc with rfl | hc
    · exact .inr fun x hx => .inl (hws x hx)
    · exact .inl hc
  cases m with
  | aside hs => rw [hs .journal (by decide)]; exact fun c hc => .inl hc
  | begin => simp
  | commit ws hw => exact cons ws hw
  | give p gno g i =>
    have added : (s.giveSister p gno g i).journal = [s.oldTool (g.memberAt i), s.oldGroup gno] :: s.journal := by
      simp [State.giveSister]
    rw [added]
    exact cons _ (by simp)
  | serveAgain p =>
    rw [State.backToServing, State.rest, State.setPosition_journal, State.leaveWaiting_journal]
    exact fun c hc => .inl hc
  | waitGrouped p t x =>
    rw [State.joinAs, State.rest, State.setPosition_journal, State.modifyGroup_journal]
    exact fun c hc => .inl hc
  | mount p n t => rw [State.seatTool, State.setPosition_journal, State.place_journal]; exact cons _ (by simp)
  | dismount p =>
    have added : (s.unseat p).journal = [s.oldTool (s.position p).active] :: s.journal := by
      simp [State.unseat, State.oldTool]
    rw [added]
    exact cons _ (by simp)
  | exchange p u =>
    rw [State.swapSeats, State.setPosition_journal, State.place_journal, State.place_journal, State.place_journal]
    exact cons _ (by simp)
  | cancel p => rw [State.dropSister, State.setPosition_journal, State.place_journal]; exact cons _ (by simp)
  | regroup group g =>
    rw [State.regroup, State.setGroupField_journal, State.setGroupField_journal, State.setGroup_journal]
    exact cons _ (s.olds_current group _)
  | disband group g =>
    rw [State.disband, State.eraseGroup_journal, State.setGroupField_journal]
    exact cons _ (s.olds_current group _)
  | wipe => exact cons _ (by simp [RetainedWrite.current])
  | restart st =>
    rw [State.restartSeats, State.rebuildSeats_journal, State.restartTables]
    have first := ((s.leaveAll (wheelPos st)).leaveAll (dresserPos st)).releaseAt_journal (wheelPos st)
    have second := (((s.leaveAll (wheelPos st)).leaveAll (dresserPos st)).releaseAt (wheelPos st)).releaseAt_journal
      (dresserPos st)
    have released : ∀ n, ((((s.leaveAll (wheelPos st)).leaveAll (dresserPos st)).releaseAt (wheelPos st)).oldTool n).current
        (s.releaseAt (wheelPos st)) := by
      intro n
      show (((s.leaveAll (wheelPos st)).leaveAll (dresserPos st)).releaseAt (wheelPos st)).tool? n =
        (s.releaseAt (wheelPos st)).tool? n
      rw [State.releaseAt_toolGet, State.releaseAt_toolGet]
      rfl
    rcases second with hs | hs <;> rw [hs]
    · rcases first with hf | hf <;> rw [hf]
      · exact fun c hc => .inl hc
      · exact cons _ (by simp [State.oldTool, State.leaveAll, RetainedWrite.current])
    · intro c hc
      rcases List.mem_cons.1 hc with rfl | hc
      · refine .inr fun x hx => .inr ⟨wheelPos st, ?_⟩
        obtain rfl := List.mem_singleton.1 hx
        exact released _
      · rcases first with hf | hf <;> rw [hf] at hc
        · exact .inl hc
        · exact cons _ (by simp [State.oldTool, State.leaveAll, RetainedWrite.current]) c hc
  | reset =>
    intro c hc
    rcases List.mem_append.1 hc with hc | hc
    · exact .inr fun x hx => .inl (State.releases_current h c hc x hx)
    · exact .inl hc
  | _ => exact fun c hc => .inl hc

/-- What holds of every write of what the records hold, before a move and after one release, holds of what its journal puts
back. -/
theorem Move.journal_all {w : Prop} {s t : State} (m : Move w s t) (h : tableWf s.tools = true) {Q : RetainedWrite → Prop}
    (hj : ∀ c ∈ s.journal, ∀ x ∈ c, Q x) (hs : ∀ x, x.current s → Q x) (hr : ∀ p x, x.current (s.releaseAt p) → Q x) :
    ∀ c ∈ t.journal, ∀ x ∈ c, Q x := by
  intro c hc x hx
  rcases m.journal h c hc with hold | hnew
  · exact hj c hold x hx
  · rcases hnew x hx with hcur | ⟨p, hcur⟩
    · exact hs x hcur
    · exact hr p x hcur

/-! ### The tables in canonical form -/

/-- Both tables are in canonical form. -/
def tablesWf (s : State) : Prop := tableWf s.tools = true ∧ tableWf s.groups = true

namespace tablesWf

variable {s : State}

theorem ofEq {t : State} (h : tablesWf s) (ht : t.tools = s.tools) (hg : t.groups = s.groups) : tablesWf t := by
  unfold tablesWf; rw [ht, hg]; exact h

theorem setTool (h : tablesWf s) {n : Nat} (hn : 1 ≤ n) (t : Tool) : tablesWf (s.setTool n t) :=
  ⟨tableWf_tablePut h.1 hn t, h.2⟩

theorem setGroup (h : tablesWf s) {n : Nat} (hn : 1 ≤ n) (g : Group) : tablesWf (s.setGroup n g) :=
  ⟨h.1, tableWf_tablePut h.2 hn g⟩

theorem setPosition (h : tablesWf s) (p : Fin 12) (x : Position) : tablesWf (s.setPosition p x) := h

theorem modifyTool (h : tablesWf s) (n : Nat) (f : Tool → Tool) : tablesWf (s.modifyTool n f) := by
  unfold State.modifyTool
  split
  · next ht => exact h.setTool (pos_of_tableGet h.1 ht) _
  · exact h

theorem place (h : tablesWf s) (n : Nat) (x : Placement) : tablesWf (s.place n x) := h.modifyTool ..

theorem modifyGroup (h : tablesWf s) (n : Nat) (f : Group → Group) : tablesWf (s.modifyGroup n f) := by
  unfold State.modifyGroup
  split
  · next hg => exact h.setGroup (pos_of_tableGet h.2 hg) _
  · exact h

theorem setGroupField (h : tablesWf s) (v : Nat) (ns : List Nat) : tablesWf (s.setGroupField v ns) := by
  unfold State.setGroupField
  induction ns generalizing s with
  | nil => exact h
  | cons n rest ih => exact ih (h.modifyTool ..)

theorem leaveWaiting (h : tablesWf s) (p : Fin 12) : tablesWf (s.leaveWaiting p) := by
  unfold State.leaveWaiting
  split
  · exact h.modifyGroup ..
  · exact h

theorem releaseAt (h : tablesWf s) (p : Fin 12) : tablesWf (s.releaseAt p) := by
  unfold State.releaseAt State.releaseSister
  split
  · exact h
  · exact modifyTool (s := s.commit _) h ..

theorem leaveAll (h : tablesWf s) (p : Fin 12) : tablesWf (s.leaveAll p) := ⟨h.1, tableWf_tableMap h.2 _⟩

/-- What the records of canonical tables hold may be put back. -/
theorem okOfCurrent (h : tablesWf s) {x : RetainedWrite} (hx : x.current s) : x.ok := by
  rcases x with ⟨n, _ | t⟩ | ⟨n, _ | g⟩ | ⟨st, c⟩ | ⟨ts, gs⟩ <;> simp only [RetainedWrite.current] at hx
  · trivial
  · exact pos_of_tableGet h.1 hx.symm
  · trivial
  · exact pos_of_tableGet h.2 hx.symm
  · trivial
  · rw [hx.1, hx.2]; exact h

end tablesWf

/-- Every move keeps both tables in canonical form. -/
theorem Move.tablesWf {w : Prop} {s t : State} (m : Move w s t) (h : tablesWf s) : tablesWf t := by
  cases m with
  | aside hs => exact h.ofEq (hs .tools (by decide)) (hs .groups (by decide))
  | wear n t u ht hu => exact h.setTool (pos_of_tableGet h.1 ht) u
  | define n u hn h1 => exact h.setTool h1 u
  | erase n t ht => exact ⟨tableWf_tableErase h.1 n, h.2⟩
  | give p gno g i hg hi =>
    exact ((tablesWf.modifyTool (s := s.commit [s.oldTool (g.memberAt i), s.oldGroup gno]) h (g.memberAt i) _).setGroup
      (pos_of_tableGet h.2 hg) _).ofEq rfl rfl
  | serveAgain p => exact (h.leaveWaiting p).setPosition ..
  | waitGrouped p t x => exact (h.modifyGroup ..).setPosition ..
  | mount p n t => exact (tablesWf.place (s := s.commit _) h ..).setPosition ..
  | dismount p => exact (tablesWf.place (s := (s.leaveWaiting p).commit _) (h.leaveWaiting p) ..).setPosition ..
  | exchange p u => exact (((tablesWf.place (s := s.commit _) h ..).place ..).place ..).setPosition ..
  | cancel p => exact (tablesWf.place (s := s.commit _) h ..).setPosition ..
  | regroup group g hr => exact ((tablesWf.setGroup (s := s.commit _) h hr.number _).setGroupField ..).setGroupField ..
  | disband group g hg =>
    have freed := tablesWf.setGroupField (s := s.commit (s.oldGroup group :: g.chain.map s.oldTool)) h 0 g.chain
    exact ⟨freed.1, tableWf_tableErase freed.2 group⟩
  | wipe hs => exact ⟨rfl, rfl⟩
  | restart st => exact (((((h.leaveAll _).leaveAll _).releaseAt _).releaseAt _).setPosition ..).setPosition ..
  | reset => exact ⟨tableWf_tableMap h.1 _, tableWf_tableMap h.2 _⟩
  | _ => exact h

theorem tablesOk.wf {s : State} (h : tablesOk s) : tablesWf s := ⟨h.1, h.2.1⟩

/-- Every move keeps the tables, and what a power failure would put back, in canonical form. -/
theorem Move.tablesOk {w : Prop} {s t : State} (m : Move w s t) (h : tablesOk s) : tablesOk t := by
  have wf := m.tablesWf h.wf
  exact ⟨wf.1, wf.2, m.journal_all h.1 h.2.2 (fun _ hx => h.wf.okOfCurrent hx)
    fun p _ hx => (h.wf.releaseAt p).okOfCurrent hx⟩

/-- What a run of puttings back keeps, a power failure keeps. -/
theorem State.undoCommits_keeps {I : State → Prop} {Q : RetainedWrite → Prop} (hI : ∀ u x, Q x → I u → I (u.putBack x))
    {s : State} (hq : ∀ c ∈ s.journal, ∀ x ∈ c, Q x) (k : Nat) (hs : I s) : I (s.undoCommits k s.journal) := by
  have run : ∀ (ws : List RetainedWrite) (u : State), (∀ x ∈ ws, Q x) → I u → I (ws.foldl State.putBack u) := by
    intro ws
    induction ws with
    | nil => exact fun u _ hu => hu
    | cons x rest ih =>
      exact fun u hw hu => ih _ (fun y hy => hw y (List.mem_cons_of_mem _ hy)) (hI u x (hw x (List.mem_cons_self ..)) hu)
  rw [State.undoCommits_eq]
  refine run _ s (fun x hx => ?_) hs
  obtain ⟨c, hc, hxc⟩ := List.mem_flatten.1 hx
  exact hq c (List.mem_of_mem_take hc) x hxc

/-- Undoing commits keeps both tables in canonical form. -/
theorem tablesOk.takePowerFail {s : State} (h : tablesOk s) (k : Nat) : tablesOk (s.takePowerFail k) := by
  have both : tablesWf (s.undoCommits k s.journal) :=
    State.undoCommits_keeps (fun u x hx hu => State.tableWf_putBack hu.1 hu.2 hx) h.2.2 k h.wf
  exact ⟨both.1, both.2, by simp [State.takePowerFail]⟩

/-- Settles O56: every move and every power failure keep the tables canonical. -/
theorem tablesStayCanonical : Obligations.TablesStayCanonical := fun _ _ h hs =>
  step_keeps h (fun _ _ _ _ m => m.tablesOk) (fun _ _ h => h) (fun _ k ht h => ht ▸ h.takePowerFail k) hs

/-! ### A property of every tool record -/

/-- A property of every tool record that the table holds. -/
def heldTools (P : Tool → Prop) (s : State) : Prop := ∀ e ∈ s.tools, P e.2

namespace heldTools

variable {P : Tool → Prop} {s : State}

theorem ofEq {t : State} (h : heldTools P s) (ht : t.tools = s.tools) : heldTools P t := by
  unfold heldTools; rw [ht]; exact h

theorem tool (h : heldTools P s) {n : Nat} {t : Tool} (ht : s.tool? n = some t) : P t := h _ (mem_of_tableGet ht)

theorem setTool (h : heldTools P s) (n : Nat) {t : Tool} (ht : P t) : heldTools P (s.setTool n t) := by
  intro e he
  rcases mem_tablePut he with rfl | he
  · exact ht
  · exact h e he

theorem setPosition (h : heldTools P s) (p : Fin 12) (x : Position) : heldTools P (s.setPosition p x) := h

theorem modifyTool (h : heldTools P s) (n : Nat) (f : Tool → Tool) (hf : ∀ t, P t → P (f t)) :
    heldTools P (s.modifyTool n f) := by
  unfold State.modifyTool
  split
  · next ht => exact h.setTool n (hf _ (h.tool ht))
  · exact h

/-- A property that does not speak of the place survives a move of a tool. -/
theorem place (hP : ∀ t x, P t → P { t with placement := x }) (h : heldTools P s) (n : Nat) (x : Placement) :
    heldTools P (s.place n x) := h.modifyTool n _ fun t => hP t x

/-- A property that does not speak of the group survives a write of the group fields. -/
theorem setGroupField (hP : ∀ t v, P t → P { t with group := v }) (h : heldTools P s) (v : Nat) (ns : List Nat) :
    heldTools P (s.setGroupField v ns) := by
  unfold State.setGroupField
  induction ns generalizing s with
  | nil => exact h
  | cons n rest ih => exact ih (h.modifyTool n _ fun t => hP t v)

theorem releaseAt (hP : ∀ t x, P t → P { t with placement := x }) (h : heldTools P s) (p : Fin 12) :
    heldTools P (s.releaseAt p) := by
  unfold State.releaseAt State.releaseSister
  split
  · exact h
  · exact modifyTool (s := s.commit _) h _ _ fun t => hP t _

theorem resetBlocks (hP : ∀ t x, P t → P { t with placement := x }) (h : heldTools P s) : heldTools P s.resetBlocks := by
  intro e he
  have he : e ∈ tableMap Tool.released s.tools := he
  rw [tableMap_eq_map] at he
  obtain ⟨x, hx, rfl⟩ := List.mem_map.1 he
  have hold := h x hx
  show P x.2.released
  unfold Tool.released
  split
  · exact hP _ _ hold
  · exact hold
  · exact hold

/-- What holds of every held record holds of a write of what a record holds. -/
theorem ofCurrent (h : heldTools P s) {x : RetainedWrite} (hx : x.current s) : x.everyTool P := by
  rcases x with ⟨n, _ | t⟩ | ⟨n, g⟩ | ⟨st, c⟩ | ⟨ts, gs⟩ <;> simp only [RetainedWrite.current] at hx
  · trivial
  · exact h.tool hx.symm
  · trivial
  · trivial
  · intro e he
    rw [hx.1] at he
    exact h e he

end heldTools

/-- A property of tool records that speaks neither of the place nor of the group is kept by every move whose wear keeps it,
and which defines only tools that have it. -/
theorem Move.heldTools {P : Tool → Prop} {w : Prop} {s t : State} (m : Move w s t)
    (hplace : ∀ t x, P t → P { t with placement := x }) (hgroup : ∀ t v, P t → P { t with group := v })
    (hwear : ∀ n x u, s.tool? n = some x → x.Wears s w u → P u) (hdefine : ∀ u : Tool, u.conditionOk → (w → u.inRange) → P u)
    (h : heldTools P s) : heldTools P t := by
  have placed : ∀ {u : State}, Machine.heldTools P u → ∀ n x, Machine.heldTools P (u.place n x) := fun hu n x =>
    heldTools.place hplace hu n x
  cases m with
  | aside hs => exact h.ofEq (hs .tools (by decide))
  | wear n x u hx hu => exact h.setTool n (hwear n x u hx hu)
  | define n u hn h1 hg hp hc hr => exact h.setTool n (hdefine u hc hr)
  | erase n x hx => exact fun e he => h e (mem_tableErase he)
  | give p gno g i =>
    exact (placed (u := s.commit [s.oldTool (g.memberAt i), s.oldGroup gno]) h (g.memberAt i) (.reserved p)).ofEq rfl
  | serveAgain p => exact h.ofEq (State.leaveWaiting_tools s p)
  | waitGrouped p t x => exact h.ofEq (State.modifyGroup_tools ..)
  | mount p n t => exact (placed (u := s.commit _) h _ _).setPosition _ _
  | dismount p =>
    exact (placed (u := (s.leaveWaiting p).commit _) (h.ofEq (State.leaveWaiting_tools s p)) _ _).setPosition _ _
  | exchange p u => exact (placed (placed (placed (u := s.commit _) h _ _) _ _) _ _).setPosition _ _
  | cancel p => exact (placed (u := s.commit _) h _ _).setPosition _ _
  | regroup group g hr =>
    have written : Machine.heldTools P ((s.commit (s.oldGroup group :: (s.droppedBy group g.chain ++ g.chain).map
      s.oldTool)).setGroup group { g with waiting := s.waitingFor group g.chain }) := h
    exact heldTools.setGroupField hgroup (heldTools.setGroupField hgroup written _ _) _ _
  | disband group g hg => exact heldTools.setGroupField (s := s.commit _) hgroup h 0 g.chain
  | wipe hs => exact fun e he => by cases he
  | restart st =>
    have left : Machine.heldTools P ((s.leaveAll (wheelPos st)).leaveAll (dresserPos st)) := h
    exact ((heldTools.releaseAt hplace (heldTools.releaseAt hplace left _) _).setPosition _ _).setPosition _ _
  | reset => exact heldTools.resetBlocks hplace h
  | _ => exact h

/-- The same for what a power failure would put back. -/
theorem Move.everyTool {P : Tool → Prop} {w : Prop} {s t : State} (m : Move w s t) (wf : Machine.tablesWf s)
    (hplace : ∀ t x, P t → P { t with placement := x }) (hgroup : ∀ t v, P t → P { t with group := v })
    (hwear : ∀ n x u, s.tool? n = some x → x.Wears s w u → P u) (hdefine : ∀ u : Tool, u.conditionOk → (w → u.inRange) → P u)
    (h : everyTool P s) : everyTool P t := by
  have held : Machine.heldTools P s := h.1
  exact ⟨m.heldTools hplace hgroup hwear hdefine held, m.journal_all wf.1 h.2 (fun _ hx => held.ofCurrent hx)
    fun p _ hx => (heldTools.releaseAt hplace held p).ofCurrent hx⟩

/-- Undoing commits leaves only records that stood, or that a commit said had stood. -/
theorem everyTool.takePowerFail {P : Tool → Prop} {s : State} (h : everyTool P s) (k : Nat) :
    everyTool P (s.takePowerFail k) := by
  refine ⟨State.undoCommits_keeps (I := heldTools P) (fun u x hx hu => ?_) h.2 k h.1, by simp [State.takePowerFail]⟩
  rcases x with ⟨n, _ | t⟩ | ⟨n, _ | g⟩ | ⟨st, c⟩ | ⟨ts, gs⟩
  · exact fun e he => hu e (mem_tableErase he)
  · exact hu.setTool n hx
  · exact hu
  · exact hu
  · exact hu
  · exact hx

/-- Settles O57: a worn or defined record's condition agrees with its life, and nothing else of a move speaks of it. -/
theorem conditionsFollowLife : Obligations.ConditionsFollowLife := by
  intro s t h htables hs
  refine (step_keeps (I := fun u => tablesOk u ∧ conditionsOk u) h (fun w _ a b m hm => ?_) (fun _ _ h => h)
    (fun a k ht h => ht ▸ ⟨h.1.takePowerFail k, everyTool.takePowerFail h.2 k⟩) ⟨htables, hs⟩).2
  obtain ⟨ht, hc⟩ := hm
  have held : heldTools Tool.conditionOk a := hc.1
  exact ⟨m.tablesOk ht, m.everyTool ht.wf (fun _ _ h => h) (fun _ _ h => h)
    (fun _ _ _ hx hu => hu.condition (held.tool hx)) (fun _ hc _ => hc) hc⟩

/-! ### The records in their ranges -/

theorem recordsOk.feed {s : State} (h : recordsOk s) : s.feedOk :=
  ⟨h.2.1, h.2.2.1, fun _ _ ht => heldTools.tool (P := Tool.inRange) h.1.1 ht⟩

/-- What the configurations hold may be put back. -/
theorem configOk_ofCurrent {s : State} (hc : ∀ st : Fin 6, 1 ≤ (s.config st).eMin) {x : RetainedWrite} (hx : x.current s) :
    x.configOk := by
  cases x with
  | config st c => exact (show c = s.config st from hx) ▸ hc st
  | _ => trivial

/-- Every move of a command that can be sent keeps every record in its ranges. -/
theorem Move.recordsOk {w : Prop} {s t : State} (m : Move w s t) (hw : w) (wf : Machine.tablesWf s) (h : recordsOk s) :
    recordsOk t := by
  have feed := h.feed
  obtain ⟨htools, hmonitors, hconfigs, hjournal, hpending⟩ := h
  have released : ∀ p, ∀ st : Fin 6, 1 ≤ ((s.releaseAt p).config st).eMin := fun p st => by
    rw [State.config, State.releaseAt_frame s p .configs (by decide)]; exact hconfigs st
  refine ⟨m.everyTool wf (fun _ _ h => h) (fun _ _ h => h) (fun _ _ _ _ hu => hu.range hw feed) (fun _ _ hr => hr hw) htools,
    fun st => ?_, fun st => ?_, m.journal_all wf.1 hjournal (fun _ hx => configOk_ofCurrent hconfigs hx)
      fun p _ hx => configOk_ofCurrent (released p) hx, m.pending ▸ hpending⟩
  · rcases m.monitors with he | ⟨k, x, hx, rfl⟩ | rfl
    · rw [State.monitor, he]; exact hmonitors st
    · rw [State.setMonitor_monitor]
      split
      · exact hx feed
      · exact hmonitors st
    · have fresh : s.resetBlocks.monitor st = freshMonitor (s.config st).present :=
        perStation_get (fun st => freshMonitor (s.config st).present) st
      rw [fresh]
      exact Monitor.inRange_fresh _
  · rcases m.configs with he | ⟨k, c, hc, rfl⟩
    · rw [State.config, he]; exact hconfigs st
    · rw [State.setConfig_config]
      split
      · exact hc
      · exact hconfigs st

/-- Undoing commits keeps every record in its ranges. -/
theorem recordsOk.takePowerFail {s : State} (h : recordsOk s) (k : Nat) : recordsOk (s.takePowerFail k) := by
  obtain ⟨htools, hmonitors, hconfigs, hjournal, hpending⟩ := h
  have frame := State.takePowerFail_frame s k
  have configs : ∀ st : Fin 6, 1 ≤ ((s.undoCommits k s.journal).config st).eMin := by
    refine State.undoCommits_keeps (I := fun u => ∀ st : Fin 6, 1 ≤ (u.config st).eMin) (fun u x hx hu st => ?_) hjournal k
      hconfigs
    rw [State.putBack_configGet]
    cases x with
    | config j c =>
      by_cases hj : j = st
      · simpa [RetainedWrite.configBefore, hj, RetainedWrite.configOk] using hx
      · simpa [RetainedWrite.configBefore, hj] using hu st
    | _ => simpa [RetainedWrite.configBefore] using hu st
  refine ⟨htools.takePowerFail k, fun st => ?_, configs, by simp [State.takePowerFail], ?_⟩
  · rw [State.monitor, frame .monitors (by decide)]; exact hmonitors st
  · rw [frame .pending (by decide)]; exact hpending

/-- Settles O58: every move of a command that can be sent, and every power failure, keep the records in their ranges. -/
theorem recordsStayInRange : Obligations.RecordsStayInRange := by
  intro s t h htables hs
  refine (step_keeps (I := fun u => tablesOk u ∧ recordsOk u) h (fun w hw a b m hm => ?_) (fun rest hsub hm => ?_)
    (fun a k ht h => ht ▸ ⟨h.1.takePowerFail k, h.2.takePowerFail k⟩) ⟨htables, hs⟩).2
  · exact ⟨m.tablesOk hm.1, m.recordsOk (hw hs.2.2.2.2) hm.1.wf hm.2⟩
  · obtain ⟨ht, htools, hmonitors, hconfigs, hjournal, hpending⟩ := hm
    exact ⟨ht, htools, hmonitors, hconfigs, hjournal, fun c hc => hpending c (hsub c hc)⟩

end Sys2Proof.Machine
end

section
/-! Chains and group fields stay in agreement: what each move does to the kinds, the group fields, the chains and the cursors. -/

namespace Sys2Proof.Machine

/-! ### What the chains speak of -/

/-- The kind and the group field of a tool number. -/
def State.membership (s : State) (n : Nat) : Option (Kind × Nat) := (s.tool? n).map fun t => (t.kind, t.group)

/-- The kind and the chain of a group number. -/
def State.roster (s : State) (n : Nat) : Option (Kind × List Nat) := (s.group? n).map fun g => (g.kind, g.chain)

/-- Memberships and rosters stand, and a cursor that moved is an index into its chain. -/
structure SameChains (s t : State) : Prop where
  membership : ∀ n, t.membership n = s.membership n
  roster : ∀ n, t.roster n = s.roster n
  cursor : ∀ n g, t.group? n = some g → (∃ h, s.group? n = some h ∧ g.cursor = h.cursor) ∨ g.cursor < g.chain.length

theorem State.membership_eq_some {s : State} {n : Nat} {k : Kind} {v : Nat} :
    s.membership n = some (k, v) ↔ ∃ t, s.tool? n = some t ∧ t.kind = k ∧ t.group = v := by
  simp [State.membership]

theorem State.roster_eq_some {s : State} {n : Nat} {k : Kind} {c : List Nat} :
    s.roster n = some (k, c) ↔ ∃ g, s.group? n = some g ∧ g.kind = k ∧ g.chain = c := by
  simp [State.roster]

theorem State.roster_of {s : State} {n : Nat} {g : Group} (h : s.group? n = some g) : s.roster n = some (g.kind, g.chain) := by
  simp [State.roster, h]

theorem State.membership_of {s : State} {n : Nat} {t : Tool} (h : s.tool? n = some t) :
    s.membership n = some (t.kind, t.group) := by
  simp [State.membership, h]

/-- Chains and group fields agree, by memberships and rosters (R5, R121). -/
theorem chainsOk_iff (s : State) : chainsOk s ↔
    (∀ n k c, s.roster n = some (k, c) → 1 ≤ c.length ∧ c.length ≤ 8 ∧ c.Nodup ∧ ∀ m ∈ c, s.membership m = some (k, n)) ∧
    (∀ n g, s.group? n = some g → g.cursor < g.chain.length) ∧
    ∀ m k n, s.membership m = some (k, n) → n ≠ 0 → ∃ k' c, s.roster n = some (k', c) ∧ m ∈ c := by
  constructor
  · rintro ⟨hg, ht⟩
    refine ⟨fun n k c h => ?_, fun n g h => (hg n g h).2.2.2.1, fun m k n h hn => ?_⟩
    · obtain ⟨g, hgr, rfl, rfl⟩ := State.roster_eq_some.1 h
      obtain ⟨h1, h8, hd, _, hm⟩ := hg n g hgr
      exact ⟨h1, h8, hd, fun m hmc => State.membership_eq_some.2 (hm m hmc)⟩
    · obtain ⟨t, hmt, rfl, rfl⟩ := State.membership_eq_some.1 h
      obtain ⟨g, hgr, hmc⟩ := ht m t hmt hn
      exact ⟨_, _, State.roster_of hgr, hmc⟩
  · rintro ⟨hr, hc, hm⟩
    refine ⟨fun n g h => ?_, fun m t h hn => ?_⟩
    · obtain ⟨h1, h8, hd, hmem⟩ := hr n _ _ (State.roster_of h)
      exact ⟨h1, h8, hd, hc n g h, fun m hmc => State.membership_eq_some.1 (hmem m hmc)⟩
    · obtain ⟨k, c, hro, hmc⟩ := hm m _ _ (State.membership_of h) hn
      obtain ⟨g, hg, _, rfl⟩ := State.roster_eq_some.1 hro
      exact ⟨g, hg, hmc⟩

theorem SameChains.chainsOk {s t : State} (h : SameChains s t) (hs : chainsOk s) : chainsOk t := by
  rw [chainsOk_iff] at hs ⊢
  obtain ⟨hr, hc, hm⟩ := hs
  simp only [h.membership, h.roster]
  refine ⟨hr, fun n g hg => ?_, hm⟩
  rcases h.cursor n g hg with ⟨x, hx, he⟩ | hlt
  · have same := h.roster n
    rw [State.roster_of hg, State.roster_of hx] at same
    simp only [Option.some.injEq, Prod.mk.injEq] at same
    rw [he, same.2]
    exact hc n x hx
  · exact hlt

namespace SameChains

variable {s t : State}

/-- Tables whose records stand but for what the chains do not speak of. -/
theorem ofMap (ht : ∀ n, ∃ f : Tool → Tool, t.tool? n = (s.tool? n).map f ∧ ∀ x, (f x).kind = x.kind ∧ (f x).group = x.group)
    (hg : ∀ n, ∃ f : Group → Group, t.group? n = (s.group? n).map f ∧
      ∀ g, (f g).kind = g.kind ∧ (f g).chain = g.chain ∧ (f g).cursor = g.cursor) : SameChains s t := by
  refine ⟨fun n => ?_, fun n => ?_, fun n g h => .inl ?_⟩
  · obtain ⟨f, hf, hk⟩ := ht n
    unfold State.membership
    rw [hf]
    cases s.tool? n <;> simp [hk]
  · obtain ⟨f, hf, hk⟩ := hg n
    unfold State.roster
    rw [hf]
    cases s.group? n <;> simp [hk]
  · obtain ⟨f, hf, hk⟩ := hg n
    rw [hf] at h
    obtain ⟨x, hx, rfl⟩ := Option.map_eq_some_iff.1 h
    exact ⟨x, hx, (hk x).2.2⟩

theorem ofEq (ht : t.tools = s.tools) (hg : t.groups = s.groups) : SameChains s t :=
  ofMap (fun n => ⟨id, by simp [State.tool?, ht], fun _ => ⟨rfl, rfl⟩⟩)
    fun n => ⟨id, by simp [State.group?, hg], fun _ => ⟨rfl, rfl, rfl⟩⟩

theorem trans {u : State} (h : SameChains s t) (k : SameChains t u) : SameChains s u := by
  refine ⟨fun n => (k.membership n).trans (h.membership n), fun n => (k.roster n).trans (h.roster n), fun n g hg => ?_⟩
  rcases k.cursor n g hg with ⟨x, hx, he⟩ | hlt
  · have same := k.roster n
    rw [State.roster_of hg, State.roster_of hx] at same
    simp only [Option.some.injEq, Prod.mk.injEq] at same
    rw [he, same.2]
    exact h.cursor n x hx
  · exact .inr hlt

/-- Only the places of tools change. -/
theorem place (s : State) (n : Nat) (x : Placement) : SameChains s (s.place n x) := by
  refine ofMap (fun m => ?_) fun m => ⟨id, by simp, fun _ => ⟨rfl, rfl, rfl⟩⟩
  by_cases h : m = n
  · exact ⟨fun t => { t with placement := x }, by simp [h], fun _ => ⟨rfl, rfl⟩⟩
  · exact ⟨id, by simp [h], fun _ => ⟨rfl, rfl⟩⟩

/-- Only one group's waiting list changes. -/
theorem modifyGroup (s : State) (n : Nat) (f : Group → Group)
    (hf : ∀ g, (f g).kind = g.kind ∧ (f g).chain = g.chain ∧ (f g).cursor = g.cursor) : SameChains s (s.modifyGroup n f) := by
  refine ofMap (fun m => ⟨id, by simp, fun _ => ⟨rfl, rfl⟩⟩) fun m => ?_
  by_cases h : m = n
  · exact ⟨f, by simp [h], hf⟩
  · exact ⟨id, by simp [h], fun _ => ⟨rfl, rfl, rfl⟩⟩

theorem leaveWaiting (s : State) (p : Fin 12) : SameChains s (s.leaveWaiting p) := by
  unfold State.leaveWaiting
  split
  · exact modifyGroup s _ _ fun _ => ⟨rfl, rfl, rfl⟩
  · exact ofEq rfl rfl

theorem leaveAll (s : State) (p : Fin 12) : SameChains s (s.leaveAll p) :=
  ofMap (fun n => ⟨id, by simp, fun _ => ⟨rfl, rfl⟩⟩) fun n => ⟨fun g => g.leave p, by simp, fun _ => ⟨rfl, rfl, rfl⟩⟩

theorem releaseAt (s : State) (p : Fin 12) : SameChains s (s.releaseAt p) := by
  refine ofMap (fun n => ?_) fun m => ⟨id, by simp, fun _ => ⟨rfl, rfl, rfl⟩⟩
  rw [State.releaseAt_toolGet]
  split
  · exact ⟨_, rfl, fun _ => ⟨rfl, rfl⟩⟩
  · exact ⟨id, by simp, fun _ => ⟨rfl, rfl⟩⟩

/-- A released tool keeps its kind and its group. -/
theorem released_seat (t : Tool) : t.released.kind = t.kind ∧ t.released.group = t.group := by
  unfold Tool.released; split <;> exact ⟨rfl, rfl⟩

theorem resetBlocks (s : State) : SameChains s s.resetBlocks :=
  ofMap (fun n => ⟨_, s.resetBlocks_toolGet n, released_seat⟩) fun n => ⟨_, s.resetBlocks_groupGet n, fun _ => ⟨rfl, rfl, rfl⟩⟩

/-- The cursor of a chosen member is an index into the chain. -/
theorem giveSister {p : Fin 12} {gno : Nat} {g : Group} {i : Nat} (hg : s.group? gno = some g) (hi : s.scan g = some i) :
    SameChains s (s.giveSister p gno g i) := by
  refine ⟨fun n => ?_, fun n => ?_, fun n x hx => ?_⟩
  · unfold State.membership
    rw [State.giveSister_toolGet]
    split
    · cases s.tool? n <;> rfl
    · rfl
  · unfold State.roster
    rw [State.giveSister_groupGet]
    split
    · subst_vars; rw [hg]; rfl
    · rfl
  · rw [State.giveSister_groupGet] at hx
    split at hx
    · cases hx
      obtain ⟨m, _, hm, _⟩ := State.eligibleAt_iff.1 (State.scan_some hi).1
      have hlt : i < g.chain.length := (List.getElem?_eq_some_iff.1 hm).1
      subst_vars
      cases hp : g.policy with
      | chain => exact .inl ⟨g, hg, by simp [Group.chosen, hp, Group.leave]⟩
      | rotate => exact .inr (by simpa [Group.chosen, hp, Group.leave] using hlt)
    · exact .inl ⟨x, hx, rfl⟩

end SameChains

/-! ### The moves that write chains -/

theorem chainsOk.define {s : State} (h : chainsOk s) {n : Nat} {u : Tool} (hn : s.tool? n = none) (hg : u.group = 0) :
    chainsOk (s.setTool n u) := by
  obtain ⟨hchain, hfield⟩ := h
  refine ⟨fun gno g hgr => ?_, fun m t ht hne => ?_⟩
  · obtain ⟨h1, h8, hd, hc, hm⟩ := hchain gno g hgr
    refine ⟨h1, h8, hd, hc, fun m hmc => ?_⟩
    obtain ⟨t, ht, hk⟩ := hm m hmc
    have : m ≠ n := by rintro rfl; rw [hn] at ht; cases ht
    exact ⟨t, by simpa [this] using ht, hk⟩
  · rw [State.setTool_toolGet] at ht
    split at ht
    · cases ht; exact absurd hg hne
    · exact hfield m t ht hne

theorem chainsOk.erase {s : State} (h : chainsOk s) (ht : tableWf s.tools = true) (hg : tableWf s.groups = true) {n : Nat}
    {t : Tool} (hn : s.tool? n = some t) (h0 : t.group = 0) : chainsOk (s.eraseTool n) := by
  obtain ⟨hchain, hfield⟩ := h
  refine ⟨fun gno g hgr => ?_, fun m x hx hne => ?_⟩
  · obtain ⟨h1, h8, hd, hc, hm⟩ := hchain gno g hgr
    refine ⟨h1, h8, hd, hc, fun m hmc => ?_⟩
    obtain ⟨x, hx, hk, hxg⟩ := hm m hmc
    have : m ≠ n := by
      rintro rfl
      rw [hn] at hx
      cases hx
      have := pos_of_tableGet hg hgr
      omega
    exact ⟨x, by simpa [State.eraseTool_toolGet ht, this] using hx, hk, hxg⟩
  · rw [State.eraseTool_toolGet ht] at hx
    split at hx
    · cases hx
    · exact hfield m x hx hne

namespace State

/-- The group fields after a DEFINE_GROUP: those of the chain name the group, those of the dropped members no group. -/
theorem regroup_toolGet (s : State) (group : Nat) (g : Group) (m : Nat) : (s.regroup group g).tool? m =
    if m ∈ g.chain then (s.tool? m).map fun t => { t with group := group }
    else if m ∈ s.chainOf group then (s.tool? m).map fun t => { t with group := 0 }
    else s.tool? m := by
  unfold regroup
  rw [setGroupField_toolGet, setGroupField_toolGet]
  have hd : m ∈ s.droppedBy group g.chain ↔ m ∈ s.chainOf group ∧ m ∉ g.chain := by simp [droppedBy]
  by_cases hc : m ∈ g.chain
  · simp [hc, hd]
  · by_cases ho : m ∈ s.chainOf group <;> simp [hc, hd, ho]

theorem regroup_groupGet (s : State) (group : Nat) (g : Group) (m : Nat) : (s.regroup group g).group? m =
    if m = group then some { g with waiting := s.waitingFor group g.chain } else s.group? m := by
  unfold regroup; simp

theorem disband_toolGet (s : State) (group : Nat) (g : Group) (m : Nat) : (s.disband group g).tool? m =
    if m ∈ g.chain then (s.tool? m).map fun t => { t with group := 0 } else s.tool? m := by
  unfold disband; rw [eraseGroup_toolGet, setGroupField_toolGet]; rfl

theorem disband_groupGet {s : State} (hg : tableWf s.groups = true) (group : Nat) (g : Group) (m : Nat) :
    (s.disband group g).group? m = if m = group then none else s.group? m := by
  unfold disband
  rw [eraseGroup_groupGet (by simpa using hg)]
  simp

/-- The old chain of a group, member by member. -/
theorem mem_chainOf {s : State} {group n : Nat} : n ∈ s.chainOf group ↔ ∃ g, s.group? group = some g ∧ n ∈ g.chain := by
  unfold chainOf; cases s.group? group <;> simp

theorem mem_waitingOf {s : State} {group : Nat} {p : Fin 12} :
    p ∈ s.waitingOf group ↔ ∃ g, s.group? group = some g ∧ p ∈ g.waiting := by
  unfold waitingOf; cases s.group? group <;> simp

end State

/-- A member of a group's chain names the group, and a tool that names a group is in its chain. -/
theorem chainsOk.mem_chainOf {s : State} (h : chainsOk s) {group n : Nat} {t : Tool} (hn : s.tool? n = some t)
    (h0 : group ≠ 0) : n ∈ s.chainOf group ↔ t.group = group := by
  rw [State.mem_chainOf]
  constructor
  · rintro ⟨g, hg, hm⟩
    obtain ⟨_, _, _, _, hmem⟩ := h.1 group g hg
    obtain ⟨x, hx, _, hxg⟩ := hmem n hm
    rw [hn] at hx; cases hx
    exact hxg
  · rintro rfl
    exact h.2 n t hn h0

theorem chainsOk.regroup {s : State} (h : chainsOk s) (hgw : tableWf s.groups = true) {group : Nat} {g : Group}
    (hr : s.Regroupable group g) (hl : 1 ≤ g.chain.length) : chainsOk (s.regroup group g) := by
  have h0 : group ≠ 0 := by have := hr.number; omega
  refine ⟨fun gno x hx => ?_, fun m t ht hne => ?_⟩
  · rw [State.regroup_groupGet] at hx
    split at hx
    · subst_vars; cases hx
      refine ⟨hl, hr.atMostEight, hr.nodup, by simp [hr.cursor]; omega, fun m hm => ?_⟩
      obtain ⟨t, ht, hk, _⟩ := hr.defined m hm
      exact ⟨{ t with group := gno }, by rw [State.regroup_toolGet]; simp [show m ∈ g.chain from hm, ht], hk, rfl⟩
    · next hgno =>
      obtain ⟨h1, h8, hd, hc, hmem⟩ := h.1 gno x hx
      refine ⟨h1, h8, hd, hc, fun m hm => ?_⟩
      obtain ⟨t, ht, hk, htg⟩ := hmem m hm
      have hgno0 : gno ≠ 0 := by have := pos_of_tableGet hgw hx; omega
      have new : m ∉ g.chain := by
        intro hmc
        obtain ⟨y, hy, _, hyg⟩ := hr.defined m hmc
        rw [ht] at hy; cases hy
        omega
      have old : m ∉ s.chainOf group := by rw [h.mem_chainOf ht h0]; omega
      exact ⟨t, by rw [State.regroup_toolGet, if_neg new, if_neg old, ht], hk, htg⟩
  · rw [State.regroup_toolGet] at ht
    split at ht
    · next hm =>
      obtain ⟨y, _, rfl⟩ := Option.map_eq_some_iff.1 ht
      exact ⟨{ g with waiting := s.waitingFor group g.chain }, by rw [State.regroup_groupGet, if_pos rfl], hm⟩
    · split at ht
      · obtain ⟨y, _, rfl⟩ := Option.map_eq_some_iff.1 ht
        exact absurd rfl hne
      · next hm ho =>
        have other : t.group ≠ group := fun he => ho ((h.mem_chainOf ht h0).2 he)
        obtain ⟨x, hx, hmx⟩ := h.2 m t ht hne
        exact ⟨x, by rw [State.regroup_groupGet, if_neg other, hx], hmx⟩

theorem chainsOk.disband {s : State} (h : chainsOk s) (hgw : tableWf s.groups = true) {group : Nat} {g : Group}
    (hg : s.group? group = some g) : chainsOk (s.disband group g) := by
  have h0 : group ≠ 0 := by have := pos_of_tableGet hgw hg; omega
  have member : ∀ {n t}, s.tool? n = some t → (n ∈ g.chain ↔ t.group = group) := by
    intro n t ht
    rw [← h.mem_chainOf ht h0, State.mem_chainOf]
    simp [hg]
  refine ⟨fun gno x hx => ?_, fun m t ht hne => ?_⟩
  · rw [State.disband_groupGet hgw] at hx
    split at hx
    · cases hx
    · next hgno =>
      obtain ⟨h1, h8, hd, hc, hmem⟩ := h.1 gno x hx
      refine ⟨h1, h8, hd, hc, fun m hm => ?_⟩
      obtain ⟨t, ht, hk, htg⟩ := hmem m hm
      have : m ∉ g.chain := by rw [member ht]; omega
      exact ⟨t, by rw [State.disband_toolGet, if_neg this, ht], hk, htg⟩
  · rw [State.disband_toolGet] at ht
    split at ht
    · obtain ⟨y, _, rfl⟩ := Option.map_eq_some_iff.1 ht
      exact absurd rfl hne
    · next hm =>
      have other : t.group ≠ group := fun he => hm ((member ht).2 he)
      obtain ⟨x, hx, hmx⟩ := h.2 m t ht hne
      exact ⟨x, by rw [State.disband_groupGet hgw, if_neg other, hx], hmx⟩

theorem chainsOk_empty {s : State} (ht : s.tools = []) (hg : s.groups = []) : chainsOk s :=
  ⟨fun n g h => by simp [State.group?, hg, tableGet] at h, fun n t h => by simp [State.tool?, ht, tableGet] at h⟩

/-- Every move of a command that can be sent keeps chains and group fields in agreement. -/
theorem Move.chainsOk {w : Prop} {s t : State} (m : Move w s t) (hw : w) (ht : tableWf s.tools = true)
    (hg : tableWf s.groups = true) (h : chainsOk s) : chainsOk t := by
  cases m with
  | aside hs => exact (SameChains.ofEq (hs .tools (by decide)) (hs .groups (by decide))).chainsOk h
  | wear n x u hx hu =>
    refine SameChains.chainsOk (SameChains.ofMap (fun k => ?_) fun k => ⟨id, by simp, fun _ => ⟨rfl, rfl, rfl⟩⟩) h
    by_cases hk : k = n
    · subst hk
      refine ⟨fun y => { u with kind := y.kind, group := y.group }, ?_, fun _ => ⟨rfl, rfl⟩⟩
      simp only [State.setTool_toolGet, if_true, hx, Option.map_some]
      rw [← hu.kind, ← hu.group]
    · exact ⟨id, by simp [hk], fun _ => ⟨rfl, rfl⟩⟩
  | define n u hn _ hu => exact h.define hn hu
  | erase n x hx hx0 => exact h.erase ht hg hx hx0
  | give p gno g i hgr hi => exact (SameChains.giveSister hgr hi).chainsOk h
  | serveAgain p => exact ((SameChains.leaveWaiting s p).trans (.ofEq rfl rfl)).chainsOk h
  | waitGrouped p x y =>
    exact ((SameChains.modifyGroup s x.group _ fun g => by unfold Group.join; split <;> exact ⟨rfl, rfl, rfl⟩).trans
      (.ofEq rfl rfl)).chainsOk h
  | mount p n x => exact ((SameChains.place (s.commit [s.oldTool n]) n _).trans (.ofEq rfl rfl)).chainsOk h
  | dismount p =>
    have left : SameChains s ((s.leaveWaiting p).commit [s.oldTool (s.position p).active]) :=
      (SameChains.leaveWaiting s p).trans (.ofEq rfl rfl)
    exact ((left.trans (.place _ _ _)).trans (.ofEq rfl rfl)).chainsOk h
  | exchange p u =>
    exact ((((SameChains.place (s.commit _) _ _).trans (.place _ _ _)).trans (.place _ _ _)).trans (.ofEq rfl rfl)).chainsOk h
  | cancel p => exact ((SameChains.place (s.commit _) _ _).trans (.ofEq rfl rfl)).chainsOk h
  | regroup group g hr hl => exact h.regroup hg hr (hl hw)
  | disband group g hgr => exact h.disband hg hgr
  | wipe => exact chainsOk_empty rfl rfl
  | restart st =>
    exact (((((SameChains.leaveAll s _).trans (.leaveAll _ _)).trans (.releaseAt _ _)).trans (.releaseAt _ _)).trans
      (.ofEq (State.rebuildSeats_tools ..) (State.rebuildSeats_groups ..))).chainsOk h
  | reset => exact (SameChains.resetBlocks s).chainsOk h
  | _ => exact (SameChains.ofEq rfl rfl).chainsOk h

/-- Settles O59: of the moves only those of a reservation, a definition, a deletion and a group request touch what the chains
speak of; POWER_FAIL leaves no power. -/
theorem chainsAgreeWithGroups : Obligations.ChainsAgreeWithGroups := by
  intro s t _ hwf ht hg hs h hpow
  have failed : ∀ (a : State) (k : Nat), t ≠ a.takePowerFail k := by rintro a k rfl; exact absurd hpow (by simp [State.takePowerFail])
  refine (step_keeps (I := fun u => tablesWf u ∧ chainsOk u) h (fun w hw a b m hm => ?_) (fun _ _ hm => hm)
    (fun a k he => absurd he (failed a k)) ⟨⟨ht, hg⟩, hs⟩).2
  exact ⟨m.tablesWf hm.1, m.chainsOk (hw hwf) hm.1.1 hm.1.2 hm.2⟩

end Sys2Proof.Machine
end

section
/-! The cell as one whole: placements, positions, kinds and waiting lists agree after each move. -/

namespace Sys2Proof.Machine

/-! ### What the seats speak of -/

namespace State

/-- Where a tool number is, none when it is undefined. -/
def placeAt (s : State) (n : Nat) : Option Placement := (s.tool? n).map Tool.placement

/-- The group field of a tool number. -/
def groupAt (s : State) (n : Nat) : Option Nat := (s.tool? n).map Tool.group

/-- The kind of a tool number. -/
def kindAt (s : State) (n : Nat) : Option Kind := (s.tool? n).map Tool.kind

/-- The waiting list of a group number. -/
def listAt (s : State) (n : Nat) : Option (List (Fin 12)) := (s.group? n).map Group.waiting

theorem placeAt_eq_some {s : State} {n : Nat} {x : Placement} :
    s.placeAt n = some x ↔ ∃ t, s.tool? n = some t ∧ t.placement = x := by simp [placeAt]

theorem groupAt_eq_some {s : State} {n v : Nat} : s.groupAt n = some v ↔ ∃ t, s.tool? n = some t ∧ t.group = v := by
  simp [groupAt]

theorem kindAt_eq_some {s : State} {n : Nat} {k : Kind} : s.kindAt n = some k ↔ ∃ t, s.tool? n = some t ∧ t.kind = k := by
  simp [kindAt]

theorem listAt_eq_some {s : State} {n : Nat} {l : List (Fin 12)} :
    s.listAt n = some l ↔ ∃ g, s.group? n = some g ∧ g.waiting = l := by simp [listAt]

end State

/-- Positions, placements, kinds and waiting lists agree (R6, R129, R130, R134, R135). -/
structure Seated (s : State) : Prop where
  shape : ∀ p : Fin 12, (s.position p).shapeOk
  active : ∀ (p : Fin 12) (n : Nat), (n ≠ 0 ∧ (s.position p).active = n) ↔ s.placeAt n = some (.mounted p)
  sister : ∀ (p : Fin 12) (n : Nat), (n ≠ 0 ∧ (s.position p).sister = n) ↔ s.placeAt n = some (.reserved p)
  nodup : ∀ gno l, s.listAt gno = some l → l.Nodup
  list : ∀ gno l, s.listAt gno = some l → ∀ p : Fin 12, p ∈ l ↔
    (s.position p).waits ∧ s.groupAt (s.position p).active = some gno
  kind : ∀ (n : Nat) (p : Fin 12), s.placeAt n = some (.mounted p) ∨ s.placeAt n = some (.reserved p) →
    s.kindAt n = some (seatKind p)
  runOn : ∀ p : Fin 12, (s.position p).state = .runOn → ∃ gno, gno ≠ 0 ∧ s.groupAt (s.position p).active = some gno

/-- The whole cell, by what its parts speak of. -/
theorem cellOk_iff (s : State) : cellOk s ↔ tablesWf s ∧ chainsOk s ∧ Seated s := by
  constructor
  · rintro ⟨ht, hg, hc, ⟨hshape, hactive, hsister⟩, hlists, hkinds, hruns⟩
    refine ⟨⟨ht, hg⟩, hc, hshape, fun p n => ?_, fun p n => ?_, fun gno l h => ?_, fun gno l h p => ?_, fun n p h => ?_,
      fun p h => ?_⟩
    · rw [hactive, State.placeAt_eq_some]
    · rw [hsister, State.placeAt_eq_some]
    · obtain ⟨g, hg, rfl⟩ := State.listAt_eq_some.1 h
      exact (hlists gno g hg).1
    · obtain ⟨g, hg, rfl⟩ := State.listAt_eq_some.1 h
      rw [(hlists gno g hg).2, State.groupAt_eq_some]
    · simp only [State.placeAt_eq_some] at h
      rcases h with ⟨t, ht, hp⟩ | ⟨t, ht, hp⟩
      · exact State.kindAt_eq_some.2 ⟨t, ht, hkinds n t ht p (.inl hp)⟩
      · exact State.kindAt_eq_some.2 ⟨t, ht, hkinds n t ht p (.inr hp)⟩
    · obtain ⟨t, ht, h0⟩ := hruns p h
      exact ⟨t.group, h0, State.groupAt_eq_some.2 ⟨t, ht, rfl⟩⟩
  · rintro ⟨⟨ht, hg⟩, hc, h⟩
    refine ⟨ht, hg, hc, ⟨h.shape, fun p n => ?_, fun p n => ?_⟩, fun gno g hg => ⟨h.nodup gno _ (State.listAt_eq_some.2 ⟨g, hg, rfl⟩),
      fun p => ?_⟩, fun n t ht p hp => ?_, fun p hr => ?_⟩
    · rw [h.active, State.placeAt_eq_some]
    · rw [h.sister, State.placeAt_eq_some]
    · rw [h.list gno _ (State.listAt_eq_some.2 ⟨g, hg, rfl⟩), State.groupAt_eq_some]
    · have hk := h.kind n p (by rcases hp with hp | hp <;> simp [State.placeAt, ht, hp])
      obtain ⟨y, hy, hyk⟩ := State.kindAt_eq_some.1 hk
      rw [ht] at hy; cases hy
      exact hyk
    · obtain ⟨gno, h0, hgr⟩ := h.runOn p hr
      obtain ⟨t, ht, rfl⟩ := State.groupAt_eq_some.1 hgr
      exact ⟨t, ht, h0⟩

namespace Seated

variable {s t : State}

/-- The seats agree when all they speak of stands. -/
theorem congr (h : Seated s) (hp : ∀ p, t.position p = s.position p) (hplace : ∀ n, t.placeAt n = s.placeAt n)
    (hgroup : ∀ n, t.groupAt n = s.groupAt n) (hkind : ∀ n, t.kindAt n = s.kindAt n)
    (hlist : ∀ n, t.listAt n = s.listAt n) : Seated t := by
  obtain ⟨h1, h2, h3, h4, h5, h6, h7⟩ := h
  constructor <;> simpa only [hp, hplace, hgroup, hkind, hlist]

/-- The same tables and positions. -/
theorem ofEq (h : Seated s) (ht : t.tools = s.tools) (hg : t.groups = s.groups) (hp : t.positions = s.positions) :
    Seated t := by
  refine h.congr (fun p => ?_) (fun n => ?_) (fun n => ?_) (fun n => ?_) (fun n => ?_)
  · simp [State.position, hp]
  · simp [State.placeAt, State.tool?, ht]
  · simp [State.groupAt, State.tool?, ht]
  · simp [State.kindAt, State.tool?, ht]
  · simp [State.listAt, State.group?, hg]

/-- Only one tool record changes, and its kind, its group and its place stand. -/
theorem wear (h : Seated s) {n : Nat} {x u : Tool} (hx : s.tool? n = some x) (hk : u.kind = x.kind) (hg : u.group = x.group)
    (hp : u.placement = x.placement) : Seated (s.setTool n u) := by
  refine h.congr (fun p => rfl) (fun m => ?_) (fun m => ?_) (fun m => ?_) (fun m => rfl) <;>
    simp only [State.placeAt, State.groupAt, State.kindAt, State.setTool_toolGet] <;> split <;> simp_all

/-- A position that is neither ORDERED nor TIMED_OUT has no sister, and its timer is stopped. -/
theorem free (h : Seated s) {p : Fin 12} (ho : (s.position p).state ≠ .ordered) (ht : (s.position p).state ≠ .timedOut) :
    (s.position p).sister = 0 := by
  have := (h.shape p).2.1
  by_contra hs
  rcases this.1 hs with h | h
  · exact ho h
  · exact ht h

theorem active_ne_zero (h : Seated s) {p : Fin 12} (he : (s.position p).state ≠ .empty) : (s.position p).active ≠ 0 :=
  fun h0 => he ((h.shape p).1.1 h0)

end Seated

/-! ### A position's own moves: it becomes another, with its tools and its place in the lists -/

namespace State

/-- Where a tool is after position `p` has become `x`: the tools that were there and are no longer are in STORE. -/
def placeAfter (s : State) (p : Fin 12) (x : Position) (n : Nat) : Option Placement :=
  if n ≠ 0 ∧ x.active = n then some (.mounted p)
  else if n ≠ 0 ∧ x.sister = n then some (.reserved p)
  else if n ≠ 0 ∧ (n = (s.position p).active ∨ n = (s.position p).sister) then (s.placeAt n).map fun _ => .store
  else s.placeAt n

theorem placeAfter_active {s : State} {p : Fin 12} {x : Position} {n : Nat} (h0 : n ≠ 0) (h : x.active = n) :
    s.placeAfter p x n = some (.mounted p) := if_pos ⟨h0, h⟩

/-- A tool that has left the position. -/
theorem placeAfter_gone {s : State} {p : Fin 12} {x : Position} {n : Nat} (h0 : n ≠ 0)
    (h : n = (s.position p).active ∨ n = (s.position p).sister) (ha : x.active = n → n = 0) (hs : x.sister = n → n = 0) :
    s.placeAfter p x n = (s.placeAt n).map fun _ => .store := by
  unfold placeAfter
  rw [if_neg fun hc => hc.1 (ha hc.2), if_neg fun hc => hc.1 (hs hc.2), if_pos ⟨h0, h⟩]

/-- A tool that has nothing to do with the position. -/
theorem placeAfter_else {s : State} {p : Fin 12} {x : Position} {n : Nat}
    (ha : n ≠ (s.position p).active ∨ (s.position p).active = 0) (hs : n ≠ (s.position p).sister ∨ (s.position p).sister = 0)
    (hxa : x.active = n → n = 0) (hxs : x.sister = n → n = 0) : s.placeAfter p x n = s.placeAt n := by
  unfold placeAfter
  rw [if_neg fun hc => hc.1 (hxa hc.2), if_neg fun hc => hc.1 (hxs hc.2), if_neg fun hc => ?_]
  obtain ⟨h0, h | h⟩ := hc
  · exact ha.elim (· h) fun hz => h0 (h.trans hz)
  · exact hs.elim (· h) fun hz => h0 (h.trans hz)

/-- A tool may come to a position: it is there already, or it is a stored one of the position's kind. -/
def canTake (s : State) (p : Fin 12) (n : Nat) : Prop :=
  n = (s.position p).active ∨ n = (s.position p).sister ∨ (s.placeAt n = some .store ∧ s.kindAt n = some (seatKind p))

/-- A group's waiting list differs at most in `p`, which is in it when `x` waits with a tool of the group. -/
def Relists (s t : State) (p : Fin 12) (x : Position) (gno : Nat) : Prop :=
  ∃ f : List (Fin 12) → List (Fin 12), t.listAt gno = (s.listAt gno).map f ∧
    ∀ l, s.listAt gno = some l → (l.Nodup → (f l).Nodup) ∧ (∀ q ≠ p, (q ∈ f l ↔ q ∈ l)) ∧
      (p ∈ f l ↔ x.waits ∧ s.groupAt x.active = some gno)

end State

/-- One position becomes `x`, with its tools' places and its membership of waiting lists; nothing else moves. -/
structure Reseats (s t : State) (p : Fin 12) (x : Position) : Prop where
  position : ∀ q, t.position q = if q = p then x else s.position q
  place : ∀ n, t.placeAt n = s.placeAfter p x n
  group : ∀ n, t.groupAt n = s.groupAt n
  kind : ∀ n, t.kindAt n = s.kindAt n
  lists : ∀ gno, s.Relists t p x gno

namespace Seated

variable {s t : State} {p : Fin 12} {x : Position}

/-- The places of the tools of the other positions stand. -/
theorem placeAfter_elsewhere (h : Seated s) (ha : x.active ≠ 0 → s.canTake p x.active) (hs : x.sister ≠ 0 → s.canTake p x.sister)
    {q : Fin 12} (hq : q ≠ p) (n : Nat) :
    (s.placeAfter p x n = some (.mounted q) ↔ s.placeAt n = some (.mounted q)) ∧
      (s.placeAfter p x n = some (.reserved q) ↔ s.placeAt n = some (.reserved q)) := by
  have here : n ≠ 0 → s.canTake p n → s.placeAt n ≠ some (.mounted q) ∧ s.placeAt n ≠ some (.reserved q) := by
    rintro h0 (h1 | h1 | ⟨h1, _⟩)
    · rw [(h.active p n).1 ⟨h0, h1.symm⟩]; simp [Ne.symm hq]
    · rw [(h.sister p n).1 ⟨h0, h1.symm⟩]; simp [Ne.symm hq]
    · rw [h1]; simp
  unfold State.placeAfter
  split
  · next hn =>
    have := here hn.1 (hn.2 ▸ ha (by rw [hn.2]; exact hn.1))
    simp [this, Ne.symm hq]
  · split
    · next hn =>
      have := here hn.1 (hn.2 ▸ hs (by rw [hn.2]; exact hn.1))
      simp [this, Ne.symm hq]
    · split
      · next hn =>
        have gone : s.placeAt n ≠ some (.mounted q) ∧ s.placeAt n ≠ some (.reserved q) := by
          constructor <;> intro hc
          · exact (here ((h.active q n).2 hc).1 (by rcases hn.2 with hn | hn <;> simp [State.canTake, hn])).1 hc
          · exact (here ((h.sister q n).2 hc).1 (by rcases hn.2 with hn | hn <;> simp [State.canTake, hn])).2 hc
        simp [gone]
      · exact ⟨Iff.rfl, Iff.rfl⟩

/-- The tools of the position itself. -/
theorem placeAfter_here (h : Seated s) (hne : x.active ≠ 0 → x.active ≠ x.sister) (n : Nat) :
    ((n ≠ 0 ∧ x.active = n) ↔ s.placeAfter p x n = some (.mounted p)) ∧
      ((n ≠ 0 ∧ x.sister = n) ↔ s.placeAfter p x n = some (.reserved p)) := by
  unfold State.placeAfter
  split
  · next hn =>
    have : x.sister ≠ n := fun hc => hne (by rw [hn.2]; exact hn.1) (by rw [hn.2, hc])
    simp [hn, this]
  · next hna =>
    split
    · next hn => simpa [hn] using hna
    · next hns =>
      simp only [hna, hns, false_iff]
      split
      · simp
      · next hn =>
        rw [← h.active, ← h.sister]
        exact ⟨fun hc => hn ⟨hc.1, .inl hc.2.symm⟩, fun hc => hn ⟨hc.1, .inr hc.2.symm⟩⟩

/-- One position changes, with tools that may come to it. -/
theorem reseat (h : Seated s) (r : Reseats s t p x) (hx : x.shapeOk) (ha : x.active ≠ 0 → s.canTake p x.active)
    (hs : x.sister ≠ 0 → s.canTake p x.sister) (hne : x.active ≠ 0 → x.active ≠ x.sister)
    (hr : x.state = .runOn → ∃ gno, gno ≠ 0 ∧ s.groupAt x.active = some gno) : Seated t := by
  have elsewhere := fun {q : Fin 12} (hq : q ≠ p) n => placeAfter_elsewhere h ha hs hq n
  have here := fun n => placeAfter_here (p := p) h hne n
  refine ⟨fun q => ?_, fun q n => ?_, fun q n => ?_, fun gno l hl => ?_, fun gno l hl q => ?_, fun n q hq => ?_, fun q hq => ?_⟩
  · rw [r.position]; split
    · exact hx
    · exact h.shape q
  · rw [r.position, r.place]; split
    · subst_vars; exact (here n).1
    · next hq => rw [(elsewhere hq n).1]; exact h.active q n
  · rw [r.position, r.place]; split
    · subst_vars; exact (here n).2
    · next hq => rw [(elsewhere hq n).2]; exact h.sister q n
  · obtain ⟨f, hf, hl'⟩ := r.lists gno
    rw [hf] at hl
    obtain ⟨k, hk, rfl⟩ := Option.map_eq_some_iff.1 hl
    exact (hl' k hk).1 (h.nodup gno k hk)
  · obtain ⟨f, hf, hl'⟩ := r.lists gno
    rw [hf] at hl
    obtain ⟨k, hk, rfl⟩ := Option.map_eq_some_iff.1 hl
    obtain ⟨_, hothers, hjoins⟩ := hl' k hk
    rw [r.position, r.group]; split
    · subst_vars; exact hjoins
    · next hq => rw [hothers q hq]; exact h.list gno k hk q
  · rw [r.kind]
    rw [r.place] at hq
    by_cases hqp : q = p
    · subst hqp
      have fits : n ≠ 0 → s.canTake q n → s.kindAt n = some (seatKind q) := by
        rintro h0 (h1 | h1 | ⟨_, h1⟩)
        · exact h.kind n q (.inl ((h.active q n).1 ⟨h0, h1.symm⟩))
        · exact h.kind n q (.inr ((h.sister q n).1 ⟨h0, h1.symm⟩))
        · exact h1
      rcases hq with hq | hq
      · obtain ⟨h0, rfl⟩ := (here n).1.2 hq
        exact fits h0 (ha h0)
      · obtain ⟨h0, rfl⟩ := (here n).2.2 hq
        exact fits h0 (hs h0)
    · rw [(elsewhere hqp n).1, (elsewhere hqp n).2] at hq
      exact h.kind n q hq
  · rw [r.group]
    rw [r.position] at hq ⊢
    split at hq
    · subst_vars; simpa using hr hq
    · next hqp => rw [if_neg hqp]; exact h.runOn q hq

end Seated

/-! ### The positions' own moves -/

namespace State

variable (s : State)

@[simp] theorem place_placeAt (n m : Nat) (y : Placement) :
    (s.place n y).placeAt m = if m = n then (s.placeAt m).map fun _ => y else s.placeAt m := by
  unfold placeAt
  rw [place_toolGet]
  split
  · subst_vars; simp [Option.map_map, Function.comp_def]
  · rfl

@[simp] theorem place_groupAt (n m : Nat) (y : Placement) : (s.place n y).groupAt m = s.groupAt m := by
  unfold groupAt
  rw [place_toolGet]
  split
  · subst_vars; simp [Option.map_map, Function.comp_def]
  · rfl

@[simp] theorem place_kindAt (n m : Nat) (y : Placement) : (s.place n y).kindAt m = s.kindAt m := by
  unfold kindAt
  rw [place_toolGet]
  split
  · subst_vars; simp [Option.map_map, Function.comp_def]
  · rfl

@[simp] theorem place_listAt (n m : Nat) (y : Placement) : (s.place n y).listAt m = s.listAt m := by
  simp [listAt]

@[simp] theorem commit_placeAt (ws : List RetainedWrite) (m : Nat) : (s.commit ws).placeAt m = s.placeAt m := rfl

@[simp] theorem leaveWaiting_placeAt (p : Fin 12) (m : Nat) : (s.leaveWaiting p).placeAt m = s.placeAt m := by simp [placeAt]
@[simp] theorem leaveWaiting_groupAt (p : Fin 12) (m : Nat) : (s.leaveWaiting p).groupAt m = s.groupAt m := by simp [groupAt]
@[simp] theorem leaveWaiting_kindAt (p : Fin 12) (m : Nat) : (s.leaveWaiting p).kindAt m = s.kindAt m := by simp [kindAt]

theorem leaveWaiting_listAt (p : Fin 12) (m : Nat) : (s.leaveWaiting p).listAt m =
    if s.groupAt (s.position p).active = some m then (s.listAt m).map fun l => l.filter (· ≠ p) else s.listAt m := by
  unfold listAt groupAt
  rw [leaveWaiting_groupGet]
  split <;> cases s.group? m <;> rfl

end State

/-- The places after a position keeps its tools. -/
theorem Seated.placeAfter_same {s : State} (h : Seated s) {p : Fin 12} {x : Position} (ha : x.active = (s.position p).active)
    (hs : x.sister = (s.position p).sister) (n : Nat) : s.placeAfter p x n = s.placeAt n := by
  unfold State.placeAfter
  rw [ha, hs]
  split
  · next hn => exact ((h.active p n).1 hn).symm
  · split
    · next hn => exact ((h.sister p n).1 hn).symm
    · next ha hs =>
      split
      · next hn =>
        obtain ⟨h0, rfl | rfl⟩ := hn
        · exact absurd ⟨h0, rfl⟩ ha
        · exact absurd ⟨h0, rfl⟩ hs
      · rfl


/-- The tool of a position is in no defined group. -/
def State.listless (s : State) (p : Fin 12) : Prop :=
  ∀ gno l, s.listAt gno = some l → s.groupAt (s.position p).active ≠ some gno

namespace Reseats

variable {s t : State} {p : Fin 12} {x : Position}

/-- No list changes. -/
theorem lists_same (h : Seated s) (hl : ∀ gno, t.listAt gno = s.listAt gno)
    (hw : ∀ gno l, s.listAt gno = some l →
      ((s.position p).waits ∧ s.groupAt (s.position p).active = some gno ↔ x.waits ∧ s.groupAt x.active = some gno)) (gno : Nat) :
    s.Relists t p x gno :=
  ⟨id, by simp [hl], fun l hk => ⟨id, fun _ _ => Iff.rfl, (h.list gno l hk p).trans (hw gno l hk)⟩⟩

/-- The position leaves the list of its tool's group, and does not wait. -/
theorem lists_left (h : Seated s) (hx : ¬ x.waits)
    (hl : ∀ gno, t.listAt gno = if s.groupAt (s.position p).active = some gno then (s.listAt gno).map fun l => l.filter (· ≠ p)
      else s.listAt gno) (gno : Nat) :
    s.Relists t p x gno := by
  unfold State.Relists
  rw [hl]
  split
  · exact ⟨_, rfl, fun l _ => ⟨fun hd => hd.filter _, fun q hq => by simp [hq], by simp [hx]⟩⟩
  · next hg => exact ⟨id, by simp, fun l hk => ⟨id, fun _ _ => Iff.rfl, (h.list gno l hk p).trans (by simp [hg, hx])⟩⟩

/-- A position changes with its tools kept, and no list changes. -/
theorem of_setPosition (h : Seated s) (ha : x.active = (s.position p).active) (hs : x.sister = (s.position p).sister)
    (hw : (x.waits ↔ (s.position p).waits) ∨ s.listless p) :
    Reseats s (s.setPosition p x) p x where
  position q := State.setPosition_position ..
  place n := (h.placeAfter_same ha hs n).symm
  group _ := rfl
  kind _ := rfl
  lists := lists_same h (fun _ => rfl) fun gno l hk => by
    rw [ha]
    rcases hw with hw | hw
    · rw [hw]
    · simp [hw gno l hk]

end Reseats

namespace Seated

variable {s : State} {p : Fin 12}

/-- A position goes to another state with its tools kept. -/
theorem setPosition (h : Seated s) {x : Position} (ha : x.active = (s.position p).active) (hs : x.sister = (s.position p).sister)
    (hx : x.shapeOk) (hr : x.state ≠ .runOn)
    (hw : (x.waits ↔ (s.position p).waits) ∨ s.listless p) :
    Seated (s.setPosition p x) := by
  refine h.reseat (.of_setPosition h ha hs hw) hx (fun _ => .inl ha) (fun _ => .inr (.inl hs)) (fun h0 he => ?_) fun hc => absurd hc hr
  rw [ha] at h0 he
  have := (h.active p _).1 ⟨h0, rfl⟩
  rw [(h.sister p _).1 ⟨h0, by rw [← hs]; exact he.symm⟩] at this
  simp at this

/-- A position that is neither EMPTY, ORDERED nor TIMED_OUT rests in another such state. -/
theorem rest (h : Seated s) {x : PositionState} (he : (s.position p).state ≠ .empty) (ho : (s.position p).state ≠ .ordered)
    (ht : (s.position p).state ≠ .timedOut) (hxe : x ≠ .empty) (hxo : x ≠ .ordered) (hxt : x ≠ .timedOut) (hr : x ≠ .runOn)
    (hw : (x = .waiting ↔ (s.position p).waits) ∨ s.listless p) :
    Seated (s.rest p x) := by
  refine h.setPosition rfl (h.free ho ht).symm ⟨?_, ?_, ?_⟩ hr ?_
  · simpa [hxe] using h.active_ne_zero he
  · simp [hxo, hxt]
  · simp
  · simpa [Position.waits, hr] using hw

end Seated

namespace State

/-- A substitute is an eligible member of the sister's group (R145). -/
theorem isSubstitute_iff {s : State} {sister u : Nat} : s.isSubstitute sister u = true ↔
    ∃ x g v, s.tool? sister = some x ∧ s.groupOf x = some g ∧ u ∈ g.chain ∧ s.tool? u = some v ∧ v.eligible g.margin = true := by
  unfold isSubstitute
  split
  · simp [*]
  · split
    · simp [*]
    · cases hu : s.tool? u <;> simp [*]

end State

namespace Seated

variable {s : State} {p : Fin 12}

/-- A stored member of the group that a tool of the position is of may come to the position. -/
theorem member_canTake (h : Seated s) (hc : chainsOk s) {gno n a : Nat} {g : Group} {u : Tool} (hg : s.group? gno = some g)
    (h0 : gno ≠ 0) (ha : s.groupAt a = some gno) (hp : s.placeAt a = some (.mounted p) ∨ s.placeAt a = some (.reserved p))
    (hn : n ∈ g.chain) (hu : s.tool? n = some u) (hs : u.placement = .store) : s.canTake p n := by
  obtain ⟨t, ht, rfl⟩ := State.groupAt_eq_some.1 ha
  obtain ⟨_, _, _, _, members⟩ := hc.1 _ g hg
  obtain ⟨g', hg', hag⟩ := hc.2 a t ht h0
  rw [hg] at hg'; cases hg'
  obtain ⟨t', ht', hk, _⟩ := members a hag
  rw [ht] at ht'; cases ht'
  obtain ⟨u', hu', hk', _⟩ := members n hn
  rw [hu] at hu'; cases hu'
  obtain ⟨t', ht', hseat⟩ := State.kindAt_eq_some.1 (h.kind a p hp)
  rw [ht] at ht'; cases ht'
  exact .inr (.inr ⟨State.placeAt_eq_some.2 ⟨u, hu, hs⟩, State.kindAt_eq_some.2 ⟨u, hu, by rw [hk', ← hk, hseat]⟩⟩)

/-- A position in a waiting list waits, and its tool is of the list's group. -/
theorem of_mem_waiting (h : Seated s) {gno : Nat} {g : Group} (hg : s.group? gno = some g) (hp : p ∈ g.waiting) :
    (s.position p).waits ∧ s.groupAt (s.position p).active = some gno :=
  (h.list gno _ (State.listAt_eq_some.2 ⟨g, hg, rfl⟩) p).1 hp

/-- A position that may be given a sister has a tool of the group, and no sister yet. -/
theorem of_canBeGiven (h : Seated s) {gno : Nat} {g : Group} (hg : s.group? gno = some g) (hp : s.canBeGiven p gno g) :
    s.groupAt (s.position p).active = some gno ∧ (s.position p).state ≠ .ordered ∧ (s.position p).state ≠ .timedOut := by
  rcases hp with ⟨t, ht, rfl, ho, hx⟩ | ⟨hm, hw⟩
  · exact ⟨State.groupAt_eq_some.2 ⟨t, ht, rfl⟩, ho, hx⟩
  · exact ⟨(h.of_mem_waiting hg hm).2, by simp [hw], by simp [hw]⟩

/-- A defined tool has a number. -/
theorem ne_zero_of_tool {n : Nat} {t : Tool} (htw : tableWf s.tools = true) (h : s.tool? n = some t) : n ≠ 0 := by
  have := pos_of_tableGet htw h; omega

theorem ne_zero_of_group {n : Nat} {g : Group} (hgw : tableWf s.groups = true) (h : s.group? n = some g) : n ≠ 0 := by
  have := pos_of_tableGet hgw h; omega

/-- The tool of a position, when it has a number, is MOUNTED there. -/
theorem mounted (h : Seated s) (h0 : (s.position p).active ≠ 0) : s.placeAt (s.position p).active = some (.mounted p) :=
  (h.active p _).1 ⟨h0, rfl⟩

theorem reserved (h : Seated s) (h0 : (s.position p).sister ≠ 0) : s.placeAt (s.position p).sister = some (.reserved p) :=
  (h.sister p _).1 ⟨h0, rfl⟩

/-- A reservation (R127, R128). -/
theorem give (h : Seated s) (hc : chainsOk s) (hw : tablesWf s) {gno i : Nat} {g : Group} (hg : s.group? gno = some g)
    (hi : s.scan g = some i) (hp : s.canBeGiven p gno g) : Seated (s.giveSister p gno g i) := by
  obtain ⟨hgr, ho, ht⟩ := h.of_canBeGiven hg hp
  obtain ⟨n, u, hn, hu, he⟩ := State.eligibleAt_iff.1 (State.scan_some hi).1
  obtain ⟨x, hx, _⟩ := State.groupAt_eq_some.1 hgr
  have member : g.memberAt i = n := by simp [Group.memberAt, List.getD_eq_getElem?_getD, hn]
  have a0 := ne_zero_of_tool hw.1 hx
  have n0 := ne_zero_of_tool hw.1 hu
  have store : s.placeAt n = some .store := State.placeAt_eq_some.2 ⟨u, hu, ((Tool.eligible_iff ..).1 he).1⟩
  have s0 := h.free ho ht
  have differ : (s.position p).active ≠ n := by
    intro hc
    have := h.mounted a0
    rw [hc, store] at this
    cases this
  have reseats : Reseats s (s.giveSister p gno g i) p
      ⟨.ordered, (s.position p).active, n, (s.config (stationOf p)).swapTimeout * 1000⟩ := by
    refine ⟨fun q => by rw [State.giveSister_position, member], fun m => ?_, fun m => ?_, fun m => ?_,
      fun gno' => Reseats.lists_left h (by simp [Position.waits]) (fun m => ?_) gno'⟩
    · unfold State.placeAfter
      simp only [State.placeAt, State.giveSister_toolGet, member]
      by_cases hm : m = n
      · subst hm; simp [differ, n0, hu]
      · simp only [hm, Ne.symm hm, if_false, and_false]
        split
        · next ha => obtain ⟨_, rfl⟩ := ha; exact h.mounted a0
        · rw [s0, if_neg (by omega)]
    · simp only [State.groupAt, State.giveSister_toolGet]
      split <;> cases s.tool? m <;> rfl
    · simp only [State.kindAt, State.giveSister_toolGet]
      split <;> cases s.tool? m <;> rfl
    · simp only [State.listAt, State.giveSister_groupGet, hgr, Option.some.injEq]
      by_cases hm : m = gno
      · subst hm; simp [hg, Group.chosen, Group.leave]
      · simp [hm, Ne.symm hm]
  exact h.reseat reseats ⟨by simp [a0], by simp [n0], by simp⟩ (fun _ => .inl rfl)
    (fun _ => h.member_canTake hc hg (ne_zero_of_group hw.2 hg) hgr (.inl (h.mounted a0)) (List.mem_of_getElem? hn) hu
      ((Tool.eligible_iff ..).1 he).1) (fun _ => differ) (by simp)

/-- The tool of a position has regained its life (R137). -/
theorem serveAgain (h : Seated s)
    (hs : (s.position p).state = .due ∨ (s.position p).state = .waiting ∨ (s.position p).state = .runOn) :
    Seated (s.backToServing p) := by
  have a0 := h.active_ne_zero (p := p) (by rcases hs with hs | hs | hs <;> simp [hs])
  have s0 := h.free (p := p) (by rcases hs with hs | hs | hs <;> simp [hs]) (by rcases hs with hs | hs | hs <;> simp [hs])
  have same : ∀ n, s.placeAfter p ⟨.serving, (s.position p).active, 0, 0⟩ n = s.placeAt n := h.placeAfter_same rfl s0.symm
  have reseats : Reseats s (s.backToServing p) p ⟨.serving, (s.position p).active, 0, 0⟩ := by
    refine ⟨fun q => ?_, fun m => ?_, fun m => ?_, fun m => ?_, Reseats.lists_left h (by simp [Position.waits]) fun m => ?_⟩
    · simp [State.backToServing, State.rest]
    · rw [same]; exact s.leaveWaiting_placeAt p m
    · exact s.leaveWaiting_groupAt p m
    · exact s.leaveWaiting_kindAt p m
    · exact s.leaveWaiting_listAt p m
  exact h.reseat reseats ⟨by simp [a0], by simp, by simp⟩ (fun _ => .inl rfl) (by simp) (fun _ => a0) (by simp)

/-- A position whose group is exhausted waits in its list (R129). -/
theorem joinAs (h : Seated s) (hw : tablesWf s) {t : Tool} {x : PositionState} (ht : s.tool? (s.position p).active = some t)
    (hg : t.group ≠ 0) (ho : (s.position p).state ≠ .ordered) (hx : (s.position p).state ≠ .timedOut)
    (hxs : x = .waiting ∨ x = .runOn) : Seated (s.joinAs p t.group x) := by
  have a0 := ne_zero_of_tool hw.1 ht
  have s0 := h.free ho hx
  have hgr : s.groupAt (s.position p).active = some t.group := State.groupAt_eq_some.2 ⟨t, ht, rfl⟩
  have waits : Position.waits ⟨x, (s.position p).active, 0, 0⟩ := hxs
  have same : ∀ n, s.placeAfter p ⟨x, (s.position p).active, 0, 0⟩ n = s.placeAt n := h.placeAfter_same rfl s0.symm
  have reseats : Reseats s (s.joinAs p t.group x) p ⟨x, (s.position p).active, 0, 0⟩ := by
    refine ⟨fun q => ?_, fun m => ?_, fun m => ?_, fun m => ?_, fun m => ?_⟩
    · simp [State.joinAs, State.rest]
    · rw [same]; simp [State.joinAs, State.rest, State.placeAt]
    · simp [State.joinAs, State.rest, State.groupAt]
    · simp [State.joinAs, State.rest, State.kindAt]
    · by_cases hm : m = t.group
      · refine ⟨fun l => if p ∈ l then l else l ++ [p], ?_, fun l _ => ⟨fun hd => ?_, fun q hq => ?_, ?_⟩⟩
        · subst hm
          simp only [State.joinAs, State.rest, State.listAt, State.setPosition_groupGet, State.modifyGroup_groupGet, if_true,
            Option.map_map]
          congr 1
          funext g
          simp only [Function.comp_apply, Group.join]
          split <;> rfl
        · beta_reduce; split
          · exact hd
          · next hp => exact hd.append (List.nodup_singleton p) (by simpa using hp)
        · beta_reduce; split <;> simp [hq]
        · rw [hm]; beta_reduce; split <;> simp_all
      · refine ⟨id, by simp [State.joinAs, State.rest, State.listAt, hm], fun l hl => ⟨id, fun _ _ => Iff.rfl, ?_⟩⟩
        refine (h.list m l hl p).trans ?_
        rw [hgr]
        simp [Ne.symm hm]
  exact h.reseat reseats ⟨by rcases hxs with rfl | rfl <;> simp [a0], by rcases hxs with rfl | rfl <;> simp, by simp⟩
    (fun _ => .inl rfl) (by simp) (fun _ => a0) fun _ => ⟨t.group, hg, hgr⟩

/-- A MOUNT (R148). -/
theorem mount (h : Seated s) (hw : tablesWf s) {n : Nat} {t : Tool} (ht : s.tool? n = some t)
    (hp : (s.position p).state = .empty) (hk : t.kind = seatKind p) (hs : t.placement = .store) : Seated (s.seatTool p n) := by
  have n0 := ne_zero_of_tool hw.1 ht
  have a0 := (h.shape p).1.2 hp
  have s0 := h.free (p := p) (by simp [hp]) (by simp [hp])
  have reseats : Reseats s (s.seatTool p n) p ⟨.serving, n, 0, 0⟩ := by
    refine ⟨fun q => ?_, fun m => ?_, fun m => ?_, fun m => ?_, Reseats.lists_same h (fun m => ?_) fun gno l _ => ?_⟩
    · simp [State.seatTool]
    · show ((s.commit _).place n _).placeAt m = _
      rw [State.place_placeAt, State.commit_placeAt]
      have at_n : s.placeAt n = some .store := State.placeAt_eq_some.2 ⟨t, ht, hs⟩
      by_cases hm : m = n
      · rw [if_pos hm, State.placeAfter_active (hm ▸ n0) hm.symm, hm, at_n]; rfl
      · rw [if_neg hm]; exact (State.placeAfter_else (.inr a0) (.inr s0) (fun he => absurd he.symm hm) Eq.symm).symm
    · exact State.place_groupAt ..
    · exact State.place_kindAt ..
    · exact State.place_listAt ..
    · simp [Position.waits, hp]
  exact h.reseat reseats ⟨by simp [n0], by simp, by simp⟩
    (fun _ => .inr (.inr ⟨State.placeAt_eq_some.2 ⟨t, ht, hs⟩, State.kindAt_eq_some.2 ⟨t, ht, hk⟩⟩)) (by simp) (fun _ => n0) (by simp)


/-- A DISMOUNT (R149). -/
theorem dismount (h : Seated s) (he : (s.position p).state ≠ .empty) (ho : (s.position p).state ≠ .ordered)
    (ht : (s.position p).state ≠ .timedOut) : Seated (s.unseat p) := by
  have a0 := h.active_ne_zero he
  have s0 := h.free ho ht
  have reseats : Reseats s (s.unseat p) p Position.vacant := by
    refine ⟨fun q => ?_, fun m => ?_, fun m => ?_, fun m => ?_, Reseats.lists_left h (by simp [Position.waits, Position.vacant]) fun m => ?_⟩
    · simp [State.unseat]
    · show (((s.leaveWaiting p).commit _).place _ _).placeAt m = _
      rw [State.place_placeAt, State.commit_placeAt, State.leaveWaiting_placeAt]
      by_cases hm : m = (s.position p).active
      · rw [if_pos hm]; exact (State.placeAfter_gone (hm ▸ a0) (.inl hm) Eq.symm Eq.symm).symm
      · rw [if_neg hm]; exact (State.placeAfter_else (.inl hm) (.inr s0) Eq.symm Eq.symm).symm
    · exact (State.place_groupAt ..).trans (State.leaveWaiting_groupAt ..)
    · exact (State.place_kindAt ..).trans (State.leaveWaiting_kindAt ..)
    · exact (State.place_listAt ..).trans (State.leaveWaiting_listAt ..)
  exact h.reseat reseats (by simp [Position.shapeOk, Position.vacant]) (by simp [Position.vacant]) (by simp [Position.vacant])
    (by simp [Position.vacant]) (by simp [Position.vacant])

/-- The tools of a position that has a sister. -/
theorem withSister (h : Seated s) (ho : (s.position p).state = .ordered ∨ (s.position p).state = .timedOut) :
    (s.position p).active ≠ 0 ∧ (s.position p).sister ≠ 0 ∧ ¬ (s.position p).waits :=
  ⟨h.active_ne_zero (by rcases ho with ho | ho <;> simp [ho]), (h.shape p).2.1.2 ho,
    by rcases ho with ho | ho <;> simp [Position.waits, ho]⟩

/-- A CONFIRM_SWAP (R144, R145). -/
theorem exchange (h : Seated s) (hc : chainsOk s) (hw : tablesWf s) {u : Nat} (ho : (s.position p).state = .ordered)
    (hu : u = (s.position p).sister ∨ s.isSubstitute (s.position p).sister u = true) : Seated (s.swapSeats p u) := by
  obtain ⟨a0, s0, hwait⟩ := h.withSister (.inl ho)
  have hsis := h.reserved s0
  have take : u ≠ 0 ∧ s.canTake p u ∧ ∃ y, s.placeAt u = some y := by
    rcases hu with rfl | hu
    · exact ⟨s0, .inr (.inl rfl), _, hsis⟩
    · obtain ⟨x, g, v, hx, hg, hm, hv, hel⟩ := State.isSubstitute_iff.1 hu
      have store := ((Tool.eligible_iff ..).1 hel).1
      obtain ⟨hx0, hgr⟩ := Moves.groupOf_some hg
      exact ⟨ne_zero_of_tool hw.1 hv, h.member_canTake hc hgr hx0 (State.groupAt_eq_some.2 ⟨x, hx, rfl⟩) (.inr hsis) hm hv store,
        _, State.placeAt_eq_some.2 ⟨v, hv, store⟩⟩
  obtain ⟨u0, htake, y, hy⟩ := take
  have reseats : Reseats s (s.swapSeats p u) p ⟨.serving, u, 0, 0⟩ := by
    refine ⟨fun q => ?_, fun m => ?_, fun m => ?_, fun m => ?_, Reseats.lists_same h (fun m => ?_) fun gno l _ => ?_⟩
    · simp [State.swapSeats]
    · show ((((s.commit _).place _ _).place _ _).place _ _).placeAt m = _
      simp only [State.place_placeAt, State.commit_placeAt]
      by_cases hm : m = u
      · rw [if_pos hm, State.placeAfter_active (hm ▸ u0) hm.symm, hm, hy]
        split <;> split <;> rfl
      · rw [if_neg hm]
        have gone := fun ht h0 => State.placeAfter_gone (s := s) (p := p) (x := ⟨.serving, u, 0, 0⟩) (n := m) h0 ht
          (fun he => absurd he.symm hm) Eq.symm
        by_cases hsm : m = (s.position p).sister
        · rw [if_pos hsm, gone (.inr hsm) (hsm ▸ s0)]
          split
          · rw [Option.map_map]; rfl
          · rfl
        · rw [if_neg hsm]
          by_cases ham : m = (s.position p).active
          · rw [if_pos ham, gone (.inl ham) (ham ▸ a0)]
          · rw [if_neg ham]
            exact (State.placeAfter_else (.inl ham) (.inl hsm) (fun he => absurd he.symm hm) Eq.symm).symm
    · exact (State.place_groupAt ..).trans ((State.place_groupAt ..).trans (State.place_groupAt ..))
    · exact (State.place_kindAt ..).trans ((State.place_kindAt ..).trans (State.place_kindAt ..))
    · exact (State.place_listAt ..).trans ((State.place_listAt ..).trans (State.place_listAt ..))
    · simp [Position.waits, ho]
  exact h.reseat reseats ⟨by simp [u0], by simp, by simp⟩ (fun _ => htake) (by simp) (fun _ => u0) (by simp)

/-- A CANCEL_SWAP (R146). -/
theorem cancel (h : Seated s) (ho : (s.position p).state = .ordered ∨ (s.position p).state = .timedOut) :
    Seated (s.dropSister p) := by
  obtain ⟨a0, s0, hwait⟩ := h.withSister ho
  have differ : (s.position p).active ≠ (s.position p).sister := fun he => by
    have := h.mounted a0
    rw [he, h.reserved s0] at this
    cases this
  have reseats : Reseats s (s.dropSister p) p ⟨.halted, (s.position p).active, 0, 0⟩ := by
    refine ⟨fun q => ?_, fun m => ?_, fun m => ?_, fun m => ?_, Reseats.lists_same h (fun m => ?_) fun gno l _ => ?_⟩
    · simp [State.dropSister]
    · show ((s.commit _).place _ _).placeAt m = _
      rw [State.place_placeAt, State.commit_placeAt]
      by_cases hm : m = (s.position p).sister
      · rw [if_pos hm]
        exact (State.placeAfter_gone (x := ⟨.halted, _, 0, 0⟩) (hm ▸ s0) (.inr hm) 
          (fun he => absurd (Eq.trans he hm) differ) Eq.symm).symm
      · rw [if_neg hm]
        by_cases ham : m = (s.position p).active
        · rw [State.placeAfter_active (x := ⟨.halted, _, 0, 0⟩) (ham ▸ a0) ham.symm, ham, h.mounted a0]
        · exact (State.placeAfter_else (x := ⟨.halted, _, 0, 0⟩) (.inl ham) (.inl hm)
            (fun he => absurd he.symm ham) Eq.symm).symm
    · exact State.place_groupAt ..
    · exact State.place_kindAt ..
    · exact State.place_listAt ..
    · rw [iff_false_left fun hc => hwait hc.1]; simp [Position.waits]
  exact h.reseat reseats ⟨by simp [a0], by simp, by simp⟩ (fun _ => .inl rfl) (by simp) (fun _ => a0) (by simp)

end Seated

end Sys2Proof.Machine
end

section
/-! The cell as one whole through the requests that write whole tables, groups or stations. -/

namespace Sys2Proof.Machine

namespace Seated

variable {s t : State}

/-- Tools that no position has, before and after, may change. -/
theorem loose (h : Seated s) (hp : ∀ p, t.position p = s.position p) (hl : ∀ n, t.listAt n = s.listAt n)
    (ht : ∀ n, (t.placeAt n = s.placeAt n ∧ t.groupAt n = s.groupAt n ∧ t.kindAt n = s.kindAt n) ∨
      (n ≠ 0 ∧ ∀ u ∈ [s, t], ∀ q : Fin 12, u.placeAt n ≠ some (.mounted q) ∧ u.placeAt n ≠ some (.reserved q))) : Seated t := by
  have loose_ne : ∀ {n}, (n ≠ 0 ∧ ∀ u ∈ [s, t], ∀ q : Fin 12, u.placeAt n ≠ some (.mounted q) ∧ u.placeAt n ≠ some (.reserved q)) →
      (∀ p, (s.position p).active ≠ n) := fun hn p he => (hn.2 s (by simp) p).1 ((h.active p _).1 ⟨hn.1, he⟩)
  have place : ∀ n q, (t.placeAt n = some (.mounted q) ↔ s.placeAt n = some (.mounted q)) ∧
      (t.placeAt n = some (.reserved q) ↔ s.placeAt n = some (.reserved q)) := fun n q => by
    rcases ht n with ⟨hn, _⟩ | ⟨_, hn⟩
    · rw [hn]; exact ⟨Iff.rfl, Iff.rfl⟩
    · simp [hn s (by simp) q, hn t (by simp) q]
  have group : ∀ p, t.groupAt (s.position p).active = s.groupAt (s.position p).active := fun p => by
    rcases ht (s.position p).active with hn | hn
    · exact hn.2.1
    · exact absurd rfl (loose_ne hn p)
  refine ⟨fun p => hp p ▸ h.shape p, fun p n => ?_, fun p n => ?_, fun gno l hk => h.nodup gno l (hl gno ▸ hk),
    fun gno l hk p => ?_, fun n p hn => ?_, fun p hr => ?_⟩
  · rw [hp, (place n p).1]; exact h.active p n
  · rw [hp, (place n p).2]; exact h.sister p n
  · rw [hp, group]; exact h.list gno l (hl gno ▸ hk) p
  · rw [(place n p).1, (place n p).2] at hn
    rcases ht n with ⟨_, _, hk⟩ | ⟨_, hk⟩
    · rw [hk]; exact h.kind n p hn
    · have := hk s (by simp) p
      exact absurd hn (not_or.2 ⟨this.1, this.2⟩)
  · rw [hp] at hr ⊢; rw [group]; exact h.runOn p hr

/-- DEFINE_TOOL. -/
theorem define (h : Seated s) {n : Nat} {u : Tool} (hn : s.tool? n = none) (h1 : 1 ≤ n) (hp : u.placement = .store) :
    Seated (s.setTool n u) := by
  refine h.loose (fun _ => rfl) (fun _ => rfl) fun m => ?_
  by_cases hm : m = n
  · subst hm
    exact .inr ⟨by omega, by simp [State.placeAt, hn, hp]⟩
  · exact .inl (by simp [State.placeAt, State.groupAt, State.kindAt, hm])

/-- DELETE_TOOL. -/
theorem erase (h : Seated s) (hw : tablesWf s) {n : Nat} {t : Tool} (hn : s.tool? n = some t) (hp : t.placement = .store) :
    Seated (s.eraseTool n) := by
  refine h.loose (fun _ => rfl) (fun _ => rfl) fun m => ?_
  by_cases hm : m = n
  · subst hm
    exact .inr ⟨ne_zero_of_tool hw.1 hn, by simp [State.placeAt, State.eraseTool_toolGet hw.1, hn, hp]⟩
  · exact .inl (by simp [State.placeAt, State.groupAt, State.kindAt, State.eraseTool_toolGet hw.1, hm])

/-- Only group fields and waiting lists change. -/
theorem regrouped (h : Seated s) (hp : ∀ p, t.position p = s.position p) (hplace : ∀ n, t.placeAt n = s.placeAt n)
    (hkind : ∀ n, t.kindAt n = s.kindAt n) (hd : ∀ gno l, t.listAt gno = some l → l.Nodup)
    (hl : ∀ gno l, t.listAt gno = some l → ∀ p : Fin 12, p ∈ l ↔
      (s.position p).waits ∧ t.groupAt (s.position p).active = some gno)
    (hr : ∀ p : Fin 12, (s.position p).state = .runOn → ∃ gno, gno ≠ 0 ∧ t.groupAt (s.position p).active = some gno) :
    Seated t := by
  obtain ⟨h1, h2, h3, _, _, h6, _⟩ := h
  constructor <;> simpa only [hp, hplace, hkind]

/-- Two positions do not have the same tool. -/
theorem active_inj (h : Seated s) {p q : Fin 12} (h0 : (s.position p).active ≠ 0)
    (he : (s.position q).active = (s.position p).active) : q = p := by
  have hp := h.mounted h0
  have hq := h.mounted (p := q) (he ▸ h0)
  rw [he, hp] at hq
  simpa using hq.symm

/-- DEFINE_GROUP finds the WAITING position of a tool that is in no list (R123). -/
theorem waitingSeat_iff (h : Seated s) (hw : tablesWf s) {n : Nat} (h0 : n ≠ 0) {p : Fin 12} : s.waitingSeat n = some p ↔
    (s.position p).active = n ∧ (s.position p).state = .waiting ∧ ∀ gno g, s.group? gno = some g → p ∉ g.waiting := by
  have found : ∀ q : Fin 12, (decide ((s.position q).active = n) && decide ((s.position q).state = .waiting) &&
      !(s.groups.any fun e => decide (q ∈ e.2.waiting))) = true ↔
      (s.position q).active = n ∧ (s.position q).state = .waiting ∧ ∀ gno g, s.group? gno = some g → q ∉ g.waiting := by
    intro q
    have listed : (s.groups.any fun e => decide (q ∈ e.2.waiting)) = true ↔ ∃ gno g, s.group? gno = some g ∧ q ∈ g.waiting := by
      simp only [List.any_eq_true, decide_eq_true_eq, Prod.exists]
      exact ⟨fun ⟨gno, g, hm, hq⟩ => ⟨gno, g, tableGet_of_mem hw.2 hm, hq⟩,
        fun ⟨gno, g, hm, hq⟩ => ⟨gno, g, mem_of_tableGet hm, hq⟩⟩
    simp only [Bool.and_eq_true, Bool.not_eq_true', ← Bool.not_eq_true, listed, decide_eq_true_eq, and_assoc, not_exists, not_and]
  unfold State.waitingSeat
  constructor
  · intro hf
    exact (found p).1 (List.find?_some hf :)
  · intro hp
    cases hf : allPositions.find? _ with
    | none =>
      have := List.find?_eq_none.1 hf p (by fin_cases p <;> decide)
      exact absurd ((found p).2 hp) this
    | some q =>
      have hq := (found q).1 (List.find?_some hf :)
      rw [h.active_inj (by rw [hp.1]; exact h0) (hq.1.trans hp.1.symm)]

/-- The positions that DEFINE_GROUP puts into the list are distinct (R123). -/
theorem seatsAdded_nodup (s : State) {ns : List Nat} (hd : ns.Nodup) : (s.seatsAdded ns).Nodup := by
  refine hd.filterMap fun n m p hn hm => ?_
  have active : ∀ {k}, s.waitingSeat k = some p → (s.position p).active = k := fun hk => by
    have := List.find?_some hk
    simp only [Bool.and_eq_true, decide_eq_true_eq] at this
    exact this.1.1
  exact (active hn).symm.trans (active hm)

/-- A tool is in a group's chain when its record names the group. -/
theorem mem_chainOf_iff (hc : chainsOk s) {group n : Nat} (h0 : group ≠ 0) : n ∈ s.chainOf group ↔ s.groupAt n = some group := by
  cases hn : s.tool? n with
  | none =>
    simp only [State.groupAt, hn, Option.map_none, reduceCtorEq, iff_false, State.mem_chainOf]
    rintro ⟨g, hg, hm⟩
    obtain ⟨_, _, _, _, members⟩ := hc.1 _ _ hg
    obtain ⟨t, ht, _⟩ := members n hm
    rw [hn] at ht; cases ht
  | some t => rw [hc.mem_chainOf hn h0]; simp [State.groupAt, hn]

/-- A position is in a group's list when it waits with a tool of the group. -/
theorem mem_waitingOf_iff (h : Seated s) (hc : chainsOk s) {group : Nat} (h0 : group ≠ 0) {p : Fin 12} :
    p ∈ s.waitingOf group ↔ (s.position p).waits ∧ s.groupAt (s.position p).active = some group := by
  rw [State.mem_waitingOf]
  constructor
  · rintro ⟨g, hg, hp⟩
    exact h.of_mem_waiting hg hp
  · rintro ⟨hp, ha⟩
    obtain ⟨g, hg, _⟩ := State.mem_chainOf.1 ((mem_chainOf_iff hc h0).2 ha)
    exact ⟨g, hg, (h.list group _ (State.listAt_eq_some.2 ⟨g, hg, rfl⟩) p).2 ⟨hp, ha⟩⟩

section Regroup

variable {group : Nat} {g : Group}

/-- The group fields after a DEFINE_GROUP. -/
theorem regroup_groupAt (hr : s.Regroupable group g) (m : Nat) :
    (s.regroup group g).groupAt m = if m ∈ g.chain then some group
      else if m ∈ s.chainOf group then (s.groupAt m).map fun _ => 0 else s.groupAt m := by
  unfold State.groupAt
  rw [State.regroup_toolGet]
  split
  · next hm =>
    obtain ⟨t, ht, _⟩ := hr.defined m hm
    simp [ht]
  · split <;> simp [Option.map_map, Function.comp_def]

/-- After a DEFINE_GROUP the tools of the group are those of its chain. -/
theorem regroup_groupAt_self (hc : chainsOk s) (hr : s.Regroupable group g) {m : Nat} :
    (s.regroup group g).groupAt m = some group ↔ m ∈ g.chain := by
  have group0 : group ≠ 0 := by have := hr.number; omega
  rw [regroup_groupAt hr]
  split
  · next hm => simp [hm]
  · next hm =>
    split
    · simp [hm, Ne.symm group0]
    · next ho => rw [mem_chainOf_iff hc group0] at ho; simp [hm, ho]

/-- A DEFINE_GROUP leaves the tools of the other groups in them. -/
theorem regroup_groupAt_other (hc : chainsOk s) (hr : s.Regroupable group g) {m gno : Nat} (h0 : gno ≠ 0) (hne : gno ≠ group) :
    (s.regroup group g).groupAt m = some gno ↔ s.groupAt m = some gno := by
  have group0 : group ≠ 0 := by have := hr.number; omega
  rw [regroup_groupAt hr]
  split
  · next hm =>
    obtain ⟨t, ht, _, hg | hg⟩ := hr.defined m hm <;> simp [State.groupAt, ht, hg, Ne.symm h0, Ne.symm hne]
  · split
    · next ho => rw [mem_chainOf_iff hc group0] at ho; simp [ho, Ne.symm h0, Ne.symm hne]
    · rfl

/-- The tool of a position that waits in the group's list is in the new chain too (R122). -/
theorem active_mem_chain (h : Seated s) (hc : chainsOk s) (hr : s.Regroupable group g) {p : Fin 12} (hp : p ∈ s.waitingOf group) :
    (s.position p).active ∈ g.chain := by
  have group0 : group ≠ 0 := by have := hr.number; omega
  by_contra hn
  have old := (mem_chainOf_iff hc group0).2 ((h.mem_waitingOf_iff hc group0).1 hp).2
  exact hr.free _ (by simpa [State.droppedBy, hn] using old) p hp rfl

/-- The positions that a DEFINE_GROUP adds are the WAITING ones of new members that are in no list (R123). -/
theorem mem_seatsAdded_iff (h : Seated s) (hw : tablesWf s) (hr : s.Regroupable group g) {p : Fin 12} :
    p ∈ s.seatsAdded (g.chain.filter (· ∉ s.chainOf group)) ↔
      ((s.position p).active ∈ g.chain ∧ (s.position p).active ∉ s.chainOf group) ∧ (s.position p).state = .waiting ∧
        ∀ gno g, s.group? gno = some g → p ∉ g.waiting := by
  have number : ∀ {n}, n ∈ g.chain → n ≠ 0 := fun hn => by
    obtain ⟨t, ht, _⟩ := hr.defined _ hn
    exact ne_zero_of_tool hw.1 ht
  simp only [State.seatsAdded, List.mem_filterMap, List.mem_filter, decide_eq_true_eq]
  constructor
  · rintro ⟨n, hn, hp⟩
    obtain ⟨rfl, hs⟩ := (h.waitingSeat_iff hw (number hn.1)).1 hp
    exact ⟨hn, hs⟩
  · rintro ⟨hn, hs⟩
    exact ⟨_, hn, (h.waitingSeat_iff hw (number hn.1)).2 ⟨rfl, hs⟩⟩

/-- The list that a DEFINE_GROUP leaves holds the positions that wait with a tool of the new chain (R123). -/
theorem mem_waitingFor_iff (h : Seated s) (hc : chainsOk s) (hw : tablesWf s) (hr : s.Regroupable group g) {p : Fin 12} :
    p ∈ s.waitingFor group g.chain ↔ (s.position p).waits ∧ (s.position p).active ∈ g.chain := by
  have group0 : group ≠ 0 := by have := hr.number; omega
  rw [State.waitingFor, List.mem_append, h.mem_seatsAdded_iff hw hr]
  constructor
  · rintro (hp | ⟨⟨hn, _⟩, hs, _⟩)
    · exact ⟨((h.mem_waitingOf_iff hc group0).1 hp).1, h.active_mem_chain hc hr hp⟩
    · exact ⟨.inl hs, hn⟩
  · rintro ⟨hp, hn⟩
    by_cases ho : (s.position p).active ∈ s.chainOf group
    · exact .inl ((h.mem_waitingOf_iff hc group0).2 ⟨hp, (mem_chainOf_iff hc group0).1 ho⟩)
    · have ungrouped : s.groupAt (s.position p).active = some 0 := by
        obtain ⟨t, ht, _, hg | hg⟩ := hr.defined _ hn
        · exact State.groupAt_eq_some.2 ⟨t, ht, hg⟩
        · exact absurd ((mem_chainOf_iff hc group0).2 (State.groupAt_eq_some.2 ⟨t, ht, hg⟩)) ho
      refine .inr ⟨⟨hn, ho⟩, hp.resolve_right fun hrun => ?_, fun gno g' hg' hm => ?_⟩
      · obtain ⟨gno, h0, hg⟩ := h.runOn p hrun
        rw [ungrouped] at hg; cases hg
        exact h0 rfl
      · have := (h.of_mem_waiting hg' hm).2
        rw [ungrouped] at this; cases this
        exact ne_zero_of_group hw.2 hg' rfl

/-- The list that a DEFINE_GROUP leaves holds no position twice. -/
theorem waitingFor_nodup (h : Seated s) (hc : chainsOk s) (hw : tablesWf s) (hr : s.Regroupable group g) :
    (s.waitingFor group g.chain).Nodup := by
  have group0 : group ≠ 0 := by have := hr.number; omega
  have old : (s.waitingOf group).Nodup := by
    unfold State.waitingOf
    cases hg : s.group? group with
    | none => exact List.nodup_nil
    | some g' => exact h.nodup group _ (State.listAt_eq_some.2 ⟨g', hg, rfl⟩)
  refine old.append (seatsAdded_nodup s (hr.nodup.filter _)) fun p hp hs => ?_
  exact ((h.mem_seatsAdded_iff hw hr).1 hs).1.2 ((mem_chainOf_iff hc group0).2 ((h.mem_waitingOf_iff hc group0).1 hp).2)

/-- A DEFINE_GROUP (R123). -/
theorem regroup (h : Seated s) (hc : chainsOk s) (hw : tablesWf s) (hr : s.Regroupable group g) :
    Seated (s.regroup group g) := by
  have group0 : group ≠ 0 := by have := hr.number; omega
  have stays : ∀ n, ∃ f : Tool → Tool, (s.regroup group g).tool? n = (s.tool? n).map f ∧
      ∀ x, (f x).kind = x.kind ∧ (f x).placement = x.placement := fun n => by
    rw [State.regroup_toolGet]
    split
    · exact ⟨_, rfl, fun _ => ⟨rfl, rfl⟩⟩
    · split
      · exact ⟨_, rfl, fun _ => ⟨rfl, rfl⟩⟩
      · exact ⟨id, by simp, fun _ => ⟨rfl, rfl⟩⟩
  have lists : ∀ gno l, (s.regroup group g).listAt gno = some l →
      (gno = group ∧ l = s.waitingFor group g.chain) ∨ (gno ≠ group ∧ gno ≠ 0 ∧ s.listAt gno = some l) := fun gno l hl => by
    obtain ⟨x, hx, rfl⟩ := State.listAt_eq_some.1 hl
    rw [State.regroup_groupGet] at hx
    split at hx
    · cases hx; exact .inl ⟨‹_›, rfl⟩
    · exact .inr ⟨‹_›, ne_zero_of_group hw.2 hx, State.listAt_eq_some.2 ⟨x, hx, rfl⟩⟩
  refine h.regrouped (fun p => ?_) (fun n => ?_) (fun n => ?_) (fun gno l hl => ?_) (fun gno l hl p => ?_) fun p hp => ?_
  · simp [State.regroup]
  · obtain ⟨f, hf, hk⟩ := stays n
    simp [State.placeAt, hf, Function.comp_def, hk]
  · obtain ⟨f, hf, hk⟩ := stays n
    simp [State.kindAt, hf, Function.comp_def, hk]
  · rcases lists gno l hl with ⟨_, rfl⟩ | ⟨_, _, hs⟩
    · exact h.waitingFor_nodup hc hw hr
    · exact h.nodup gno l hs
  · rcases lists gno l hl with ⟨rfl, rfl⟩ | ⟨hne, h0, hs⟩
    · rw [h.mem_waitingFor_iff hc hw hr, regroup_groupAt_self hc hr]
    · rw [h.list gno l hs, regroup_groupAt_other hc hr h0 hne]
  · obtain ⟨gno, h0, hg⟩ := h.runOn p hp
    by_cases hne : gno = group
    · subst hne
      have := h.active_mem_chain hc hr ((h.mem_waitingOf_iff hc h0).2 ⟨.inr hp, hg⟩)
      exact ⟨gno, h0, (regroup_groupAt_self hc hr).2 this⟩
    · exact ⟨gno, h0, (regroup_groupAt_other hc hr h0 hne).2 hg⟩

end Regroup

/-- A DELETE_GROUP (R125). -/
theorem disband (h : Seated s) (hc : chainsOk s) (hw : tablesWf s) {group : Nat} {g : Group} (hg : s.group? group = some g)
    (he : g.waiting = []) : Seated (s.disband group g) := by
  have group0 := ne_zero_of_group hw.2 hg
  have chain : s.chainOf group = g.chain := by unfold State.chainOf; rw [hg]
  have groups : ∀ n, (s.disband group g).groupAt n = if s.groupAt n = some group then some 0 else s.groupAt n := fun n => by
    have member : n ∈ g.chain ↔ s.groupAt n = some group := chain ▸ mem_chainOf_iff hc group0
    unfold State.groupAt at member ⊢
    rw [State.disband_toolGet]
    by_cases hn : n ∈ g.chain
    · obtain ⟨t, ht, _⟩ := State.groupAt_eq_some.1 (member.1 hn)
      rw [if_pos hn, if_pos (member.1 hn), ht]; rfl
    · rw [if_neg hn, if_neg (mt member.2 hn)]
  have other : ∀ {n gno}, gno ≠ 0 → gno ≠ group → ((s.disband group g).groupAt n = some gno ↔ s.groupAt n = some gno) := by
    intro n gno h0 hne
    rw [groups]
    split
    · next hn => simp [hn, Ne.symm h0, Ne.symm hne]
    · rfl
  have lists : ∀ gno l, (s.disband group g).listAt gno = some l → gno ≠ group ∧ gno ≠ 0 ∧ s.listAt gno = some l := fun gno l hl => by
    obtain ⟨x, hx, rfl⟩ := State.listAt_eq_some.1 hl
    rw [State.disband_groupGet hw.2] at hx
    split at hx
    · cases hx
    · exact ⟨‹_›, ne_zero_of_group hw.2 hx, State.listAt_eq_some.2 ⟨x, hx, rfl⟩⟩
  refine h.regrouped (fun p => ?_) (fun n => ?_) (fun n => ?_) (fun gno l hl => h.nodup gno l (lists gno l hl).2.2)
    (fun gno l hl p => ?_) fun p hp => ?_
  · simp [State.disband]
  · unfold State.placeAt
    rw [State.disband_toolGet]
    split <;> simp [Function.comp_def]
  · unfold State.kindAt
    rw [State.disband_toolGet]
    split <;> simp [Function.comp_def]
  · obtain ⟨hne, h0, hs⟩ := lists gno l hl
    rw [h.list gno l hs, other h0 hne]
  · obtain ⟨gno, h0, hgr⟩ := h.runOn p hp
    have hne : gno ≠ group := by
      rintro rfl
      have := (h.list gno _ (State.listAt_eq_some.2 ⟨g, hg, rfl⟩) p).2 ⟨.inr hp, hgr⟩
      rw [he] at this; cases this
    exact ⟨gno, h0, (other h0 hne).2 hgr⟩

end Seated

namespace State

variable {s : State} {p : Fin 12}

/-! ### Positions rebuilt from the placements (R115, R150) -/

/-- No tool is MOUNTED at the position. -/
theorem rebuilt_of_none (hw : tableWf s.tools = true) (h : ∀ n y, s.tool? n = some y → y.placement ≠ .mounted p) :
    s.rebuilt p = Position.vacant := by
  have none : s.mountedAt p = .none :=
    List.find?_eq_none.2 fun e he => by simpa using h e.1 e.2 (tableGet_of_mem hw he)
  simp [rebuilt, none]

/-- One tool is MOUNTED at the position. -/
theorem rebuilt_of_one (hw : tableWf s.tools = true) {n : Nat} {y : Tool} (hn : s.tool? n = some y)
    (hy : y.placement = .mounted p) (one : ∀ m z, s.tool? m = some z → z.placement = .mounted p → m = n) :
    s.rebuilt p = ⟨if y.condition.serviceable then .serving else .due, n, 0, 0⟩ := by
  unfold rebuilt
  cases hf : s.mountedAt p with
  | none => exact absurd hy (by simpa using List.find?_eq_none.1 hf (n, y) (mem_of_tableGet hn))
  | some e =>
    obtain ⟨m, z⟩ := e
    have hz : z.placement = .mounted p := by simpa using List.find?_some hf
    have hm : s.tool? m = some z := tableGet_of_mem hw (List.mem_of_find?_eq_some hf)
    obtain rfl := one m z hm hz
    rw [hn] at hm; cases hm
    rfl

/-- The position that tool `a` is MOUNTED at, EMPTY when it is undefined. -/
def seatOf (s : State) (a : Nat) : Position :=
  match s.tool? a with
  | some x => ⟨if x.condition.serviceable then .serving else .due, a, 0, 0⟩
  | none => Position.vacant

/-- When the tools MOUNTED at a position are `a` alone, or none for 0, the position is rebuilt for `a`. -/
theorem rebuilt_eq_seatOf (hw : tableWf s.tools = true) {a : Nat}
    (h : ∀ n, (n ≠ 0 ∧ a = n) ↔ s.placeAt n = some (.mounted p)) : s.rebuilt p = s.seatOf a := by
  unfold seatOf
  cases ha : s.tool? a with
  | none =>
    refine rebuilt_of_none hw fun n y hn hy => ?_
    obtain ⟨_, rfl⟩ := (h n).2 (placeAt_eq_some.2 ⟨y, hn, hy⟩)
    rw [ha] at hn; cases hn
  | some x =>
    obtain ⟨y, hy, hp⟩ := placeAt_eq_some.1 ((h a).1 ⟨Seated.ne_zero_of_tool hw ha, rfl⟩)
    rw [ha] at hy; cases hy
    exact rebuilt_of_one hw ha hp fun m z hm hz => ((h m).2 (placeAt_eq_some.2 ⟨z, hm, hz⟩)).2.symm

theorem seatOf_active {a : Nat} (h : a ≠ 0 → ∃ t, s.tool? a = some t) : (s.seatOf a).active = a := by
  unfold seatOf
  cases ha : s.tool? a with
  | some x => rfl
  | none =>
    by_contra h0
    obtain ⟨t, ht⟩ := h (Ne.symm h0)
    rw [ha] at ht; cases ht

@[simp] theorem seatOf_sister (a : Nat) : (s.seatOf a).sister = 0 := by unfold seatOf; split <;> rfl

theorem seatOf_waits (a : Nat) : ¬ (s.seatOf a).waits := by
  unfold seatOf Position.waits
  split
  · dsimp only; split <;> simp
  · simp [Position.vacant]

theorem seatOf_shape (hw : tableWf s.tools = true) (a : Nat) : (s.seatOf a).shapeOk := by
  unfold seatOf Position.shapeOk
  cases ha : s.tool? a with
  | some x =>
    have a0 := Seated.ne_zero_of_tool hw ha
    dsimp only; split <;> simp [a0]
  | none => simp [Position.vacant]

variable (s)

@[simp] theorem releaseAt_placeAt (q : Fin 12) (n : Nat) : (s.releaseAt q).placeAt n =
    if n = (s.position q).sister ∧ n ≠ 0 then (s.placeAt n).map fun _ => .store else s.placeAt n := by
  unfold placeAt
  rw [releaseAt_toolGet]
  split
  · rw [Option.map_map, Option.map_map]; rfl
  · rfl

@[simp] theorem releaseAt_groupAt (q : Fin 12) (n : Nat) : (s.releaseAt q).groupAt n = s.groupAt n := by
  unfold groupAt
  rw [releaseAt_toolGet]
  split
  · rw [Option.map_map]; rfl
  · rfl

@[simp] theorem releaseAt_kindAt (q : Fin 12) (n : Nat) : (s.releaseAt q).kindAt n = s.kindAt n := by
  unfold kindAt
  rw [releaseAt_toolGet]
  split
  · rw [Option.map_map]; rfl
  · rfl

end State

namespace State

variable (s : State)

@[simp] theorem setPosition_placeAt (p : Fin 12) (x : Position) (n : Nat) : (s.setPosition p x).placeAt n = s.placeAt n := rfl
@[simp] theorem setPosition_groupAt (p : Fin 12) (x : Position) (n : Nat) : (s.setPosition p x).groupAt n = s.groupAt n := rfl
@[simp] theorem setPosition_kindAt (p : Fin 12) (x : Position) (n : Nat) : (s.setPosition p x).kindAt n = s.kindAt n := rfl
@[simp] theorem setPosition_listAt (p : Fin 12) (x : Position) (n : Nat) : (s.setPosition p x).listAt n = s.listAt n := rfl

@[simp] theorem leaveAll_placeAt (p : Fin 12) (n : Nat) : (s.leaveAll p).placeAt n = s.placeAt n := rfl
@[simp] theorem leaveAll_groupAt (p : Fin 12) (n : Nat) : (s.leaveAll p).groupAt n = s.groupAt n := rfl
@[simp] theorem leaveAll_kindAt (p : Fin 12) (n : Nat) : (s.leaveAll p).kindAt n = s.kindAt n := rfl
@[simp] theorem leaveAll_listAt (p : Fin 12) (n : Nat) :
    (s.leaveAll p).listAt n = (s.listAt n).map fun l => l.filter (· ≠ p) := by
  unfold listAt
  rw [leaveAll_groupGet, Option.map_map, Option.map_map]
  rfl

@[simp] theorem releaseAt_listAt (p : Fin 12) (n : Nat) : (s.releaseAt p).listAt n = s.listAt n := by
  unfold listAt
  rw [releaseAt_groupGet]

@[simp] theorem setPosition_rebuilt (p q : Fin 12) (x : Position) : (s.setPosition p x).rebuilt q = s.rebuilt q := rfl

/-! ### The reads after a RESET_STATION -/

@[simp] theorem rebuildSeats_placeAt (st : Fin 6) (n : Nat) : (s.rebuildSeats st).placeAt n = s.placeAt n := rfl
@[simp] theorem rebuildSeats_groupAt (st : Fin 6) (n : Nat) : (s.rebuildSeats st).groupAt n = s.groupAt n := rfl
@[simp] theorem rebuildSeats_kindAt (st : Fin 6) (n : Nat) : (s.rebuildSeats st).kindAt n = s.kindAt n := rfl
@[simp] theorem rebuildSeats_listAt (st : Fin 6) (n : Nat) : (s.rebuildSeats st).listAt n = s.listAt n := rfl

end State

/-- Where a tool is after a power-on (R23). -/
def Placement.afterReset : Placement → Placement
  | .reserved _ => .store
  | x => x

theorem Tool.released_placement (t : Tool) : t.released.placement = t.placement.afterReset := by
  unfold Tool.released
  split <;> simp_all [Placement.afterReset]

theorem State.resetBlocks_position (s : State) (p : Fin 12) : s.resetBlocks.position p = s.resetBlocks.rebuilt p :=
  perPosition_get ..

/-- The positions name the tools that are placed at them (R6, R150). -/
structure Placed (s : State) : Prop where
  active : ∀ (p : Fin 12) (n : Nat), (n ≠ 0 ∧ (s.position p).active = n) ↔ s.placeAt n = some (.mounted p)
  sister : ∀ (p : Fin 12) (n : Nat), (n ≠ 0 ∧ (s.position p).sister = n) ↔ s.placeAt n = some (.reserved p)

theorem Seated.placed {s : State} (h : Seated s) : Placed s := ⟨h.active, h.sister⟩

/-- Releasing a sister that is not MOUNTED keeps the MOUNTED tools. -/
theorem State.releaseAt_placeAt_mounted {s : State} {q : Fin 12}
    (hs : ∀ n, n ≠ 0 ∧ (s.position q).sister = n → ∀ p, s.placeAt n ≠ some (.mounted p)) {n : Nat} {p : Fin 12} :
    (s.releaseAt q).placeAt n = some (.mounted p) ↔ s.placeAt n = some (.mounted p) := by
  rw [State.releaseAt_placeAt]
  split
  · next hn => simp [hs n ⟨hn.2, hn.1.symm⟩ p]
  · rfl

theorem tableWf_releaseAt {s : State} (h : tableWf s.tools = true) (p : Fin 12) : tableWf (s.releaseAt p).tools = true := by
  unfold State.releaseAt State.releaseSister State.modifyTool
  dsimp only
  split
  · exact h
  · split
    · next ht => exact tableWf_tablePut h (pos_of_tableGet h ht) _
    · exact h

theorem dresserPos_ne_wheelPos (st : Fin 6) : dresserPos st ≠ wheelPos st := by
  intro he
  have := congrArg Fin.val he
  simp [dresserPos, wheelPos] at this

namespace Placed

variable {s : State}

/-- A RESET_STATION leaves the MOUNTED tools in place. -/
theorem restartTables_placeAt_mounted (h : Placed s) (st : Fin 6) {n : Nat} {p : Fin 12} :
    (s.restartTables st).placeAt n = some (.mounted p) ↔ s.placeAt n = some (.mounted p) := by
  have free : ∀ q n, n ≠ 0 ∧ (s.position q).sister = n → ∀ p, s.placeAt n ≠ some (.mounted p) := fun q n hn p => by
    rw [(h.sister q n).1 hn]; simp
  unfold State.restartTables
  rw [State.releaseAt_placeAt_mounted, State.releaseAt_placeAt_mounted]
  · rfl
  · simpa using free (wheelPos st)
  · intro n hn q hm
    rw [State.releaseAt_placeAt_mounted (by simpa using free (wheelPos st))] at hm
    exact free (dresserPos st) n (by simpa using hn) q hm

/-- The tools in use keep their records through a RESET_STATION. -/
theorem restartTables_seatOf (h : Placed s) (st : Fin 6) (q : Fin 12) :
    (s.restartTables st).seatOf (s.position q).active = s.seatOf (s.position q).active := by
  have apart : ∀ p, ¬ ((s.position q).active = (s.position p).sister ∧ (s.position q).active ≠ 0) := fun p hc => by
    have := (h.active q _).1 ⟨hc.2, rfl⟩
    rw [(h.sister p _).1 ⟨hc.2, hc.1.symm⟩] at this
    cases this
  have same : (s.restartTables st).tool? (s.position q).active = s.tool? (s.position q).active := by
    unfold State.restartTables
    rw [State.releaseAt_toolGet, if_neg (by simpa using apart (dresserPos st)), State.releaseAt_toolGet,
      if_neg (by simpa using apart (wheelPos st)), State.leaveAll_toolGet, State.leaveAll_toolGet]
  unfold State.seatOf
  rw [same]

/-- The two positions of a restarted station are rebuilt for their tools, the others stand (R115). -/
theorem restartSeats_position (h : Placed s) (hw : tableWf s.tools = true) (st : Fin 6) (p : Fin 12) :
    (s.restartSeats st).position p =
      if p = wheelPos st ∨ p = dresserPos st then s.seatOf (s.position p).active else s.position p := by
  have wf : tableWf (s.restartTables st).tools = true := by
    unfold State.restartTables
    exact tableWf_releaseAt (tableWf_releaseAt (by exact hw) _) _
  have rebuilt : ∀ q, (s.restartTables st).rebuilt q = s.seatOf (s.position q).active := fun q =>
    (State.rebuilt_eq_seatOf wf fun n => (h.active q n).trans (h.restartTables_placeAt_mounted st).symm).trans
      (h.restartTables_seatOf st q)
  have stand : (s.restartTables st).position p = s.position p := by simp [State.restartTables]
  unfold State.restartSeats State.rebuildSeats
  dsimp only
  rw [State.setPosition_rebuilt, rebuilt, rebuilt, State.setPosition_position, State.setPosition_position, stand]
  by_cases hd : p = dresserPos st
  · subst hd; simp
  · by_cases hp : p = wheelPos st
    · subst hp; simp [hd]
    · simp [hd, hp]

end Placed

namespace Seated

variable {s t : State} {p : Fin 12}

/-- A position's tool, when it has a number, is defined. -/
theorem active_defined (h : Seated s) (h0 : (s.position p).active ≠ 0) : ∃ t, s.tool? (s.position p).active = some t := by
  obtain ⟨t, ht, _⟩ := State.placeAt_eq_some.1 (h.mounted h0)
  exact ⟨t, ht⟩

/-- A position is taken out of every list, its sister is released, and its tool stays (R115). -/
theorem restartOne (h : Seated s) {x : Position} (ha : x.active = (s.position p).active) (hs : x.sister = 0) (hx : x.shapeOk)
    (hw : ¬ x.waits) : Seated (((s.leaveAll p).releaseAt p).setPosition p x) := by
  have differ : (s.position p).active ≠ 0 → (s.position p).active ≠ (s.position p).sister := fun a0 he => by
    have := h.mounted a0
    rw [he, h.reserved (he ▸ a0)] at this
    cases this
  have reseats : Reseats s (((s.leaveAll p).releaseAt p).setPosition p x) p x := by
    refine ⟨fun q => by simp, fun m => ?_, fun m => ?_, fun m => ?_, fun gno => ⟨fun l => l.filter (· ≠ p), ?_, fun l _ =>
      ⟨fun hd => hd.filter _, fun q hq => by simp [hq], by simp [hw]⟩⟩⟩
    · have read : (((s.leaveAll p).releaseAt p).setPosition p x).placeAt m =
          if m = (s.position p).sister ∧ m ≠ 0 then (s.placeAt m).map fun _ => .store else s.placeAt m :=
        (s.leaveAll p).releaseAt_placeAt p m
      rw [read]
      by_cases hm : m = (s.position p).sister ∧ m ≠ 0
      · rw [if_pos hm]
        exact (State.placeAfter_gone hm.2 (.inr hm.1) (fun he => absurd (ha.symm.trans (he.trans hm.1))
          (differ (ha ▸ he ▸ hm.2))) fun he => (hs.symm.trans he).symm).symm
      · rw [if_neg hm]
        by_cases ham : (s.position p).active = m ∧ m ≠ 0
        · rw [State.placeAfter_active ham.2 (ha.trans ham.1), (h.active p m).1 ⟨ham.2, ham.1⟩]
        · unfold State.placeAfter
          rw [ha, hs, if_neg fun hc => ham hc.symm, if_neg fun hc => hc.1 hc.2.symm, if_neg]
          rintro ⟨h0, he | he⟩
          · exact ham ⟨he.symm, h0⟩
          · exact hm ⟨he, h0⟩
    · exact (s.leaveAll p).releaseAt_groupAt p m
    · exact (s.leaveAll p).releaseAt_kindAt p m
    · simp only [State.listAt, State.setPosition_groupGet, State.releaseAt_groupGet, State.leaveAll_groupGet, Option.map_map]
      rfl
  refine h.reseat reseats hx (fun _ => .inl ha) (fun h0 => absurd hs h0) (fun h0 => hs ▸ h0) fun hr => absurd (.inr hr) hw

/-- What is left at the two positions and in the lists by a RESET_STATION is what two restarts leave (R115). -/
theorem restart (h : Seated s) (hw : tablesWf s) (st : Fin 6) : Seated (s.restartSeats st) := by
  have h1 := h.restartOne (p := wheelPos st) (State.seatOf_active fun h0 => h.active_defined h0) (State.seatOf_sister _)
    (State.seatOf_shape hw.1 _) (State.seatOf_waits _)
  have far : dresserPos st ≠ wheelPos st := dresserPos_ne_wheelPos st
  have there : ((((s.leaveAll (wheelPos st)).releaseAt (wheelPos st)).setPosition (wheelPos st)
      (s.seatOf (s.position (wheelPos st)).active)).position (dresserPos st)) = s.position (dresserPos st) := by simp [far]
  have h2 := h1.restartOne (p := dresserPos st) (x := s.seatOf (s.position (dresserPos st)).active)
    (by rw [there]; exact State.seatOf_active fun h0 => h.active_defined h0) (State.seatOf_sister _)
    (State.seatOf_shape hw.1 _) (State.seatOf_waits _)
  refine h2.congr (fun p => ?_) (fun n => ?_) (fun n => ?_) (fun n => ?_) fun n => ?_
  · rw [h.placed.restartSeats_position hw.1]
    by_cases hd : p = dresserPos st
    · subst hd; simp
    · by_cases hpw : p = wheelPos st
      · subst hpw; simp [far.symm]
      · simp [hd, hpw]
  · simp only [State.restartSeats, State.restartTables, State.rebuildSeats_placeAt, State.setPosition_placeAt,
      State.releaseAt_placeAt, State.leaveAll_placeAt, State.releaseAt_position, State.leaveAll_position, there]
    congr!
  · simp [State.restartSeats, State.restartTables]
  · simp [State.restartSeats, State.restartTables]
  · simp [State.restartSeats, State.restartTables]

/-- A power-on or a RESET_SUPERVISOR rebuilds every position (R23, R150). -/
theorem reset (h : Seated s) (hw : tablesWf s) : Seated s.resetBlocks := by
  have place : ∀ n, s.resetBlocks.placeAt n = (s.placeAt n).map Placement.afterReset := fun n => by
    unfold State.placeAt
    rw [State.resetBlocks_toolGet]
    simp [Function.comp_def, Tool.released_placement]
  have same : ∀ {α : Type} (f : Tool → α), (∀ t, f t.released = f t) → ∀ n, (s.resetBlocks.tool? n).map f = (s.tool? n).map f :=
    fun f hf n => by rw [State.resetBlocks_toolGet, Option.map_map]; simp [Function.comp_def, hf]
  have group : ∀ n, s.resetBlocks.groupAt n = s.groupAt n := same Tool.group fun t => (SameChains.released_seat t).2
  have kind : ∀ n, s.resetBlocks.kindAt n = s.kindAt n := same Tool.kind fun t => (SameChains.released_seat t).1
  have mounted : ∀ n p, s.resetBlocks.placeAt n = some (.mounted p) ↔ s.placeAt n = some (.mounted p) := fun n p => by
    rw [place]; cases s.placeAt n with
    | none => simp
    | some x => cases x <;> simp [Placement.afterReset]
  have reserved : ∀ n p, s.resetBlocks.placeAt n ≠ some (.reserved p) := fun n p => by
    rw [place]; cases s.placeAt n with
    | none => simp
    | some x => cases x <;> simp [Placement.afterReset]
  have position : ∀ p, s.resetBlocks.position p = s.resetBlocks.seatOf (s.position p).active := fun p => by
    rw [State.resetBlocks_position]
    exact State.rebuilt_eq_seatOf (tableWf_tableMap hw.1 _) fun n => (h.active p n).trans (mounted n p).symm
  have active : ∀ p, (s.resetBlocks.position p).active = (s.position p).active := fun p => by
    rw [position]
    refine State.seatOf_active fun h0 => ?_
    obtain ⟨t, ht⟩ := h.active_defined h0
    exact ⟨t.released, by rw [State.resetBlocks_toolGet, ht]; rfl⟩
  have list : ∀ gno l, s.resetBlocks.listAt gno = some l → l = [] := fun gno l hl => by
    unfold State.listAt at hl
    rw [State.resetBlocks_groupGet, Option.map_map] at hl
    obtain ⟨g, _, rfl⟩ := Option.map_eq_some_iff.1 hl
    rfl
  refine ⟨fun p => ?_, fun p n => ?_, fun p n => ?_, fun gno l hl => ?_, fun gno l hl p => ?_, fun n p hn => ?_, fun p hr => ?_⟩
  · rw [position]; exact State.seatOf_shape (tableWf_tableMap hw.1 _) _
  · rw [active, mounted]; exact h.active p n
  · exact iff_of_false (fun hc => hc.1 (hc.2.symm.trans (by rw [position]; simp))) (reserved n p)
  · rw [list gno l hl]; exact List.nodup_nil
  · rw [list gno l hl, position]
    exact iff_of_false (by simp) fun hc => State.seatOf_waits _ hc.1
  · rw [kind]
    exact h.kind n p (.inl ((mounted n p).1 (hn.resolve_right (reserved n p))))
  · rw [position] at hr
    exact absurd (.inr hr) (State.seatOf_waits _)

/-- A CLEAR_TABLES finds every tool in STORE, so every position is EMPTY (R174). -/
theorem wipe (h : Seated s) (hs : ∀ e ∈ s.tools, e.2.placement = .store) : Seated s.wipeTables := by
  have stored : ∀ n x, s.placeAt n = some x → x = .store := fun n x hn => by
    obtain ⟨t, ht, rfl⟩ := State.placeAt_eq_some.1 hn
    exact hs _ (mem_of_tableGet ht)
  have noActive : ∀ (p : Fin 12) (n : Nat), ¬ (n ≠ 0 ∧ (s.position p).active = n) := fun p n hn => by
    have := stored n _ ((h.active p n).1 hn); cases this
  have noSister : ∀ (p : Fin 12) (n : Nat), ¬ (n ≠ 0 ∧ (s.position p).sister = n) := fun p n hn => by
    have := stored n _ ((h.sister p n).1 hn); cases this
  have place : ∀ n, s.wipeTables.placeAt n = none := fun n => rfl
  refine ⟨h.shape, fun p n => ?_, fun p n => ?_, fun gno l hl => ?_, fun gno l hl => ?_, fun n p hn => ?_, fun p hr => ?_⟩
  · exact iff_of_false (noActive p n) (by rw [place]; simp)
  · exact iff_of_false (noSister p n) (by rw [place]; simp)
  · cases hl
  · cases hl
  · rw [place] at hn; simp at hn
  · have : (s.position p).active ≠ 0 := h.active_ne_zero (by rw [show (s.position p).state = .runOn from hr]; simp)
    exact absurd ⟨this, rfl⟩ (noActive p _)

end Seated
/-- Every move of a command that can be sent keeps the seats in agreement. -/
theorem Move.seated {w : Prop} {s t : State} (m : Move w s t) (hw : Machine.tablesWf s) (hc : Machine.chainsOk s)
    (h : Seated s) : Seated t := by
  cases m with
  | aside hs => exact h.ofEq (hs .tools (by decide)) (hs .groups (by decide)) (hs .positions (by decide))
  | begin | commit | monitor | config => exact h.ofEq rfl rfl rfl
  | wear n x u hx hu => exact h.wear hx hu.kind hu.group hu.placement
  | define n u hn h1 _ hp => exact h.define hn h1 hp
  | erase n x hx _ hp => exact h.erase hw hx hp
  | give p gno g i hg hi hp => exact h.give hc hw hg hi hp
  | due p hp =>
    exact h.rest (by simp [hp]) (by simp [hp]) (by simp [hp]) (by simp) (by simp) (by simp) (by simp)
      (.inl (by simp [Position.waits, hp]))
  | serveAgain p hp => exact h.serveAgain hp
  | waitUngrouped p x hx hg ho ht =>
    refine h.rest (fun he => ?_) ho ht (by simp) (by simp) (by simp) (by simp) (.inr fun gno l hl hgr => ?_)
    · exact Seated.ne_zero_of_tool hw.1 hx ((h.shape p).1.2 he)
    · obtain ⟨y, hy, rfl⟩ := State.groupAt_eq_some.1 hgr
      rw [hx] at hy; cases hy
      obtain ⟨g, hgg, _⟩ := State.listAt_eq_some.1 hl
      rw [State.groupOf, if_neg (Seated.ne_zero_of_group hw.2 hgg), hgg] at hg
      cases hg
  | waitGrouped p x y hx hg ho ht hy => exact h.joinAs hw hx hg ho ht hy
  | runOut p hp =>
    exact h.rest (by simp [hp]) (by simp [hp]) (by simp [hp]) (by simp) (by simp) (by simp) (by simp)
      (.inl (by simp [Position.waits, hp]))
  | countDown p k hp =>
    obtain ⟨a0, s0, hwait⟩ := h.withSister (.inl hp)
    exact h.setPosition rfl rfl ⟨by simp [a0, hp], by simp [s0, hp], by simp [hp]⟩ (by simp [hp]) (.inl Iff.rfl)
  | timeOut p hp =>
    obtain ⟨a0, s0, hwait⟩ := h.withSister (.inl hp)
    exact h.setPosition rfl rfl ⟨by simp [a0], by simp [s0], by simp⟩ (by simp) (.inl (by simp [hp, Position.waits]))
  | mount p n x hx hp hk hs => exact h.mount hw hx hp hk hs
  | dismount p he ho ht => exact h.dismount he ho ht
  | exchange p u ho hu => exact h.exchange hc hw ho hu
  | cancel p ho => exact h.cancel ho
  | regroup group g hr => exact h.regroup hc hw hr
  | disband group g hg he => exact h.disband hc hw hg he
  | wipe hs => exact h.wipe hs
  | restart st => exact h.restart hw st
  | reset => exact h.reset hw

/-- Settles O60: the parts of the cell are kept together by each move; POWER_FAIL leaves no power. -/
theorem swapsKeepTheCellWhole : Obligations.SwapsKeepTheCellWhole := by
  intro s t _ hwf hs h hpow
  have failed : ∀ (a : State) (k : Nat), t ≠ a.takePowerFail k := by
    rintro a k rfl; exact absurd hpow (by simp [State.takePowerFail])
  rw [cellOk_iff] at hs ⊢
  refine step_keeps (I := fun u => tablesWf u ∧ chainsOk u ∧ Seated u) h (fun w hw a b m hm => ?_) (fun _ _ hm =>
      ⟨hm.1, hm.2.1, hm.2.2.ofEq rfl rfl rfl⟩) (fun a k he => absurd he (failed a k)) hs
  obtain ⟨ht, hc, hseat⟩ := hm
  exact ⟨m.tablesWf ht, m.chainsOk (hw hwf) ht.1 ht.2 hc, m.seated ht hc hseat⟩

end Sys2Proof.Machine
end

section
/-! The figures of a tool record, and the part as delivered. -/

namespace Sys2Proof.Machine

namespace Tool

variable (x : Tool)

theorem shortOfStock_iff : x.shortOfStock = true ↔ x.kind = .wheel ∧ x.stock < x.dressDepth := by simp [shortOfStock]

/-- The life condition, by the life and the stock (R8). -/
theorem lifeCondition_iff :
    (x.lifeCondition = .spent ↔ x.limitUnits ≤ x.used ∨ x.shortOfStock = true) ∧
    (x.lifeCondition = .warned ↔ x.used < x.limitUnits ∧ ¬ x.shortOfStock = true ∧ x.warnUnits ≤ x.used) ∧
    (x.lifeCondition = .sound ↔ x.used < x.limitUnits ∧ ¬ x.shortOfStock = true ∧ x.used < x.warnUnits) := by
  unfold lifeCondition
  by_cases hs : x.limitUnits ≤ x.used ∨ x.shortOfStock = true
  · simp only [hs, if_true, reduceCtorEq, false_iff, true_and]
    constructor <;> rintro ⟨h1, h2, _⟩ <;> rcases hs with h | h <;> first | omega | exact h2 h
  · obtain ⟨hl, hd⟩ := not_or.1 hs
    have lives : x.used < x.limitUnits := Nat.lt_of_not_le hl
    by_cases hw : x.warnUnits ≤ x.used <;> simp [hl, lives, hd, hw, Nat.not_le.1, Nat.not_lt.2]

/-- The remaining passes, bounded from both sides (R71). -/
theorem remainingPasses_bounds (h : x.used < x.limitUnits) : x.used + 1024 * x.remainingPasses ≤ x.limitUnits ∧
    x.limitUnits < x.used + 1024 * (x.remainingPasses + 1) := by
  unfold remainingPasses
  rw [if_pos h]
  omega

end Tool

/-- Settles O23. -/
theorem lifeFiguresAndCondition : Obligations.LifeFiguresAndCondition := by
  intro x percent
  have limit : x.limitUnits = 1024 * x.limit := Nat.mul_comm ..
  obtain ⟨spent, warned, sound⟩ := x.lifeCondition_iff
  have ceiling : x.overrunCeiling percent = min 4294967295 (1024 * x.limit + 1024 * x.limit * percent / 100) := by
    rw [Tool.overrunCeiling, limit]; rfl
  have warn : x.warnUnits = 1024 * x.limit * x.warnPercent / 100 := by rw [Tool.warnUnits, limit]
  rw [limit, Tool.shortOfStock_iff] at spent warned sound
  refine ⟨limit, by omega, by omega, fun h => ?_, fun h => ?_, by omega, by omega, spent, warned, sound⟩
  · rw [Tool.remainingPasses, if_neg (by omega)]
  · rw [← limit] at h ⊢
    exact x.remainingPasses_bounds h

/-- Settles O54: the tables are empty, the positions are EMPTY, and each record holds its default. -/
theorem resetMeetsInvariants : Obligations.ResetMeetsInvariants := by
  have position : ∀ p, State.reset.position p = Position.vacant := fun p => Vector.getElem_replicate p.isLt
  have empty : ∀ P : Tool → Prop, everyTool P State.reset := fun P => ⟨by simp [State.reset], by simp [State.reset]⟩
  have noPlace : ∀ n, State.reset.placeAt n = none := fun _ => rfl
  have noList : ∀ n, State.reset.listAt n = none := fun _ => rfl
  have seated : Seated State.reset := by
    refine ⟨fun p => ?_, fun p n => ?_, fun p n => ?_, fun gno l h => ?_, fun gno l h => ?_, fun n p h => ?_, fun p h => ?_⟩
    · rw [position]; simp [Position.shapeOk, Position.vacant]
    · rw [position, noPlace]; exact iff_of_false (fun h => h.1 h.2.symm) (by simp)
    · rw [position, noPlace]; exact iff_of_false (fun h => h.1 h.2.symm) (by simp)
    · rw [noList] at h; cases h
    · rw [noList] at h; cases h
    · rw [noPlace] at h; simp at h
    · rw [position] at h; cases h
  have monitor : ∀ st, State.reset.monitor st = Monitor.fresh .off := fun st => Vector.getElem_replicate st.isLt
  have config : ∀ st, State.reset.config st = StationConfig.delivered := fun st => Vector.getElem_replicate st.isLt
  have records : recordsOk State.reset :=
    ⟨empty _, fun st => monitor st ▸ Monitor.inRange_fresh _, fun st => by rw [config]; decide, by simp [State.reset],
      by simp [State.reset]⟩
  have queues : queuesOk State.reset := ⟨by simp [NoticeQueues.ok, State.reset, NoticeQueues.fresh], by decide⟩
  exact ⟨queues, ⟨rfl, rfl, by simp [State.reset]⟩, empty _, records, (cellOk_iff _).2 ⟨⟨rfl, rfl⟩, chainsOk_empty rfl rfl, seated⟩⟩

end Sys2Proof.Machine
end

section
/-! The tool-table requests: refused, or one record changed, with the eligibility event that follows. -/

namespace Sys2Proof.Machine

theorem isToolNumber_of_bad {n : Nat} (h : n = 0 ∨ 128 < n) : isToolNumber n = false := by
  rw [← Bool.not_eq_true, isToolNumber_iff]; omega

theorem isToolNumber_of_good {n : Nat} (h : ¬ (n = 0 ∨ 128 < n)) : isToolNumber n = true := by
  rw [isToolNumber_iff]; omega

/-! ### Taken requests -/

/-- What a request's work leaves alone, the request leaves alone, beside the port and the journal. -/
theorem onlyChanges_withLink {s t : State} {parts : List Part} {x : LinkPort} (h : onlyChanges (.journal :: parts) s.atWork t) :
    onlyChanges (.link :: .journal :: parts) s (t.withLink x) := by
  refine onlyChanges_trans (onlyChanges_trans (t := s.atWork) (fun y hy => ?_) (onlyChanges_mono h ?_)) fun y hy => ?_
  · cases y <;> first | rfl | simp at hy
  · simp
  · cases y <;> first | rfl | simp at hy

/-- A request whose work changes the listed parts alone, beside the journal, and answers with an empty body. -/
theorem takenOk_of {s t : State} {parts : List Part} {r : ResultCode} (h : onlyChanges (.journal :: parts) s.atWork t) :
    takenOk s (t.withLink (s.link.sending ⟨s.summaryByte, r, []⟩)) r parts :=
  ⟨rfl, onlyChanges_withLink h⟩

namespace State

variable (s : State)

/-- A tool request's write: the commit and the record. -/
def writeTool (n : Nat) (x : Tool) : State := (s.commit [s.oldTool n]).setTool n x

theorem writeTool_frame (n : Nat) (x : Tool) : onlyChanges [.journal, .tools] s (s.writeTool n x) := fun y hy => by
  cases y <;> first | rfl | simp at hy

end State

/-- A selector is 255 for all classes or the number of one (Table 10-5). -/
theorem selectorArg_none {n : Nat} : selectorArg n = none ↔ 3 < n ∧ n ≠ 255 := by
  unfold selectorArg
  split
  · simp_all
  · split <;> simp <;> omega

theorem selectorArg_some {n : Nat} {picks : Fin 4 → Bool} (h : selectorArg n = some picks) (c : Fin 4) :
    picks c = true ↔ n = 255 ∨ n = c.val := by
  unfold selectorArg at h
  by_cases hn : n = 255
  · rw [if_pos hn] at h
    cases h
    simp [hn]
  · rw [if_neg hn] at h
    by_cases h4 : n < 4
    · rw [if_pos h4] at h
      cases h
      simp only [beq_iff_eq, hn, false_or]
      exact eq_comm
    · rw [if_neg h4] at h
      cases h

/-- Settles O30. -/
theorem clearReferenceUnlearns : Obligations.ClearReferenceUnlearns := by
  intro s tool selector hp
  refine ⟨_, congrArg Host.Outcome.next (State.request_of_powered hp _), ?_⟩
  split
  · next bad =>
    refine refused_of ?_
    by_cases ht : tool = 0 ∨ 128 < tool
    · simp [State.clearReference, isToolNumber_of_bad ht]
    · rw [State.clearReference, selectorArg_none.2 (by tauto), isToolNumber_of_good ht]
  · next good =>
    have number : isToolNumber tool = true := isToolNumber_of_good (by tauto)
    obtain ⟨picks, hsel⟩ := Option.ne_none_iff_exists'.1 (mt selectorArg_none.1 (by tauto : ¬ (3 < selector ∧ selector ≠ 255)))
    split
    · next hn => exact refused_of (by simp [State.clearReference, number, hsel, hn])
    · next x hx =>
      have work : s.atWork.clearReference tool selector = (s.atWork.writeTool tool
          { x with refs := perClass fun c => if picks c then ClassRef.cleared else x.refs[c] }).accept .ok := by
        unfold State.clearReference
        rw [number, hsel, State.atWork_toolGet, hx]
        rfl
      rw [serve_taken work rfl]
      refine ⟨takenOk_of (s.atWork.writeTool_frame tool _), _, fun m => State.setTool_toolGet .., rfl, fun c => ?_⟩
      refine (perClass_get ..).trans ?_
      simp only [selectorArg_some hsel]
      rfl

/-! ### WITHDRAW_TOOL, REINSTATE_TOOL and RENEW_TOOL -/

/-- What the owning block does after its writes may be said of the state that has sent the reply, when it does not use the
port. -/
theorem serve_taken_then {s : State} {work : State → Answer} {t : State} {r : ResultCode} {f : State → State}
    (h : work s.atWork = (f t).accept r) (hl : t.link = s.link.executing) (hf : (f t).link = t.link)
    (hc : ∀ l, f (t.withLink l) = (f t).withLink l) :
    s.serve work = f (t.withLink (s.link.sending ⟨s.summaryByte, r, []⟩)) := by
  rw [serve_taken h (hf.trans hl), hc]

/-- An eligibility event that a request may make (R81). -/
def State.eventIf (b : Bool) (gno : Nat) (s : State) : State := if b then s.eligibilityEvent gno else s

namespace State

variable (s : State) (b : Bool) (gno : Nat)

@[simp] theorem eventIf_link : (s.eventIf b gno).link = s.link := by
  cases b
  · rfl
  · exact eligibilityEvent_link ..

theorem withLink_eventIf (l : LinkPort) : (s.withLink l).eventIf b gno = (s.eventIf b gno).withLink l := by
  cases b
  · rfl
  · exact withLink_eligibilityEvent ..

/-- A taken request whose writes an eligibility event may follow. -/
theorem serve_taken_event {s : State} {work : State → Answer} {t : State} {r : ResultCode} {b : Bool} {gno : Nat}
    (h : work s.atWork = (t.eventIf b gno).accept r) (hl : t.link = s.link.executing) :
    s.serve work = (t.withLink (s.link.sending ⟨s.summaryByte, r, []⟩)).eventIf b gno :=
  serve_taken_then h hl (eventIf_link ..) fun _ => withLink_eventIf ..

theorem eventIf_ne_zero : (if gno = 0 then s else s.eligibilityEvent gno) = s.eventIf (gno ≠ 0) gno := by
  unfold eventIf
  by_cases h : gno = 0 <;> simp [h]

end State

/-- The record write of a tool request leaves every group, so a tool is eligible after it as it was before. -/
theorem State.writeTool_reportIfEligible (s : State) (n : Nat) (x : Tool) :
    (s.writeTool n x).reportIfEligible n = (s.writeTool n x).eventIf (s.eligibleNow x) x.group := by
  have get : (s.writeTool n x).tool? n = some x := by simp [State.writeTool]
  unfold State.reportIfEligible
  rw [get]
  rfl

/-- Settles O29. -/
theorem withdrawAndReinstateTool : Obligations.WithdrawAndReinstateTool := by
  intro s tool hp
  refine ⟨⟨_, congrArg Host.Outcome.next (State.request_of_powered hp _), ?_⟩,
    ⟨_, congrArg Host.Outcome.next (State.request_of_powered hp _), ?_⟩⟩
  · split
    · next bad => exact refused_of (by simp [State.withdrawTool, isToolNumber_of_bad bad])
    · next good =>
      have number := isToolNumber_of_good good
      split
      · next hn => exact refused_of (by simp [State.withdrawTool, number, hn])
      · next x hx =>
        split
        · next hs => exact refused_of (by simp [State.withdrawTool, number, hx, hs])
        · next hs =>
          have work : s.atWork.withdrawTool tool = (s.atWork.writeTool tool { x with condition := .withdrawn }).accept .ok := by
            unfold State.withdrawTool
            rw [number, State.atWork_toolGet, hx, if_pos rfl]
            exact if_neg hs
          rw [serve_taken work rfl]
          exact ⟨takenOk_of (s.atWork.writeTool_frame tool _), fun m => State.setTool_toolGet ..⟩
  · split
    · next bad => exact refused_of (by simp [State.reinstateTool, isToolNumber_of_bad bad])
    · next good =>
      have number := isToolNumber_of_good good
      split
      · next hn => exact refused_of (by simp [State.reinstateTool, number, hn])
      · next x hx =>
        split
        · next hs => exact refused_of (by simp [State.reinstateTool, number, hx, hs])
        · next hs =>
          split
          · next hc => exact refused_of (by simp_all [State.reinstateTool])
          · next hc =>
            have work : s.atWork.reinstateTool tool = ((s.atWork.writeTool tool
                { x with refs := refsCleared, condition := x.lifeCondition }).reportIfEligible tool).accept .ok := by
              unfold State.reinstateTool
              rw [number, State.atWork_toolGet, hx, if_pos rfl]
              exact (if_neg hs).trans (if_neg hc)
            rw [State.writeTool_reportIfEligible] at work
            rw [State.serve_taken_event work rfl]
            exact ⟨_, _, takenOk_of (s.atWork.writeTool_frame tool _), fun m => State.setTool_toolGet .., rfl, rfl⟩

/-- The stock that RENEW_TOOL gives: a carried one for a wheel, the held one for a dresser (R18). -/
def Tool.newStock (x : Tool) (stock : Nat) : Setting :=
  match x.kind with
  | .wheel => setting 0 20000 stock
  | .dresser => ⟨x.stock, false⟩

theorem clamp_zero (hi v : Nat) : clamp 0 hi v = min hi v := by
  unfold clamp
  split
  · omega
  · split <;> omega

theorem Tool.taken_newStock (x : Tool) (stock : Nat) :
    taken (x.newStock stock).clamped = if x.kind = .wheel ∧ 20000 < stock then .adjusted else .ok := by
  unfold newStock
  cases x.kind with
  | wheel =>
    by_cases h : 20000 < stock
    · have : min 20000 stock ≠ stock := by omega
      simp [setting, clamp_zero, taken, h, this]
    · have : min 20000 stock = stock := by omega
      simp [setting, clamp_zero, taken, h, this]
  | dresser => simp [taken]

theorem Tool.newStock_value (x : Tool) (stock : Nat) :
    (x.newStock stock).value = if x.kind = .wheel then min 20000 stock else x.stock := by
  unfold newStock
  cases x.kind <;> simp [setting, clamp_zero]

/-- A tool at the start of its life is SOUND, or SPENT when its stock is less than one dress takes (R8, R18). -/
theorem Tool.lifeCondition_of_unused {x : Tool} (hu : x.used = 0) (hl : 1 ≤ x.limit) (hw : 50 ≤ x.warnPercent) :
    x.lifeCondition = if x.kind = .wheel ∧ x.stock < x.dressDepth then .spent else .sound := by
  have limit : 0 < x.limitUnits := by unfold limitUnits; omega
  have warn : 0 < x.warnUnits := by
    have : 1024 * 50 ≤ x.limitUnits * x.warnPercent := Nat.mul_le_mul (by unfold limitUnits; omega) hw
    unfold warnUnits; omega
  unfold lifeCondition
  simp only [x.shortOfStock_iff, hu, Nat.not_le_of_lt limit, Nat.not_le_of_lt warn, false_or, if_false]

/-- The record of a renewed tool (R18). -/
theorem Tool.renewed_newStock_forced (x : Tool) (stock : Nat) (h : x.inRange) :
    (x.renewed (x.newStock stock).value).forced = { x with
      used := 0
      dressCount := 0
      tallies := ⟨0, 0, 0, 0⟩
      refs := Vector.replicate 4 ⟨.unlearned, 0, 0, 0⟩
      stock := if x.kind = .wheel then min 20000 stock else x.stock
      condition := if x.kind = .wheel ∧ min 20000 stock < x.dressDepth then .spent else .sound } := by
  obtain ⟨_, hl, _, hw, _⟩ := h
  have life := Tool.lifeCondition_of_unused (x := x.renewed (x.newStock stock).value) rfl hl hw
  unfold Tool.forced
  rw [life]
  unfold Tool.renewed
  rw [x.newStock_value]
  have carried : (x.kind = .wheel ∧ (if x.kind = .wheel then min 20000 stock else x.stock) < x.dressDepth) ↔
      (x.kind = .wheel ∧ min 20000 stock < x.dressDepth) := and_congr_right fun hk => by rw [if_pos hk]
  simp only [carried]
  rfl

/-- Settles O28. -/
theorem renewToolStartsItsLifeAgain : Obligations.RenewToolStartsItsLifeAgain := by
  intro s tool stock hp hrange
  refine ⟨_, congrArg Host.Outcome.next (State.request_of_powered hp _), ?_⟩
  split
  · next bad => exact refused_of (by simp [State.renewTool, isToolNumber_of_bad bad])
  · next good =>
    have number := isToolNumber_of_good good
    split
    · next hn => exact refused_of (by simp [State.renewTool, number, hn])
    · next x hx =>
      split
      · next hs => exact refused_of (by simp [State.renewTool, number, hx, hs])
      · next hs =>
        have work : s.atWork.renewTool tool stock =
            ((s.atWork.writeTool tool (x.renewed (x.newStock stock).value).forced).eventIf (x.group ≠ 0) x.group).accept
              (taken (x.newStock stock).clamped) := by
          unfold State.renewTool
          rw [number, State.atWork_toolGet, hx, if_pos rfl]
          refine (if_neg hs).trans ?_
          rw [← State.eventIf_ne_zero]
          rfl
        rw [State.serve_taken_event work rfl]
        have range := hrange x hx
        rw [x.renewed_newStock_forced stock range, x.taken_newStock stock, ← State.eventIf_ne_zero]
        exact ⟨_, takenOk_of (s.atWork.writeTool_frame tool _), fun m => State.setTool_toolGet .., rfl⟩

/-! ### DELETE_TOOL and CLEAR_TABLES -/

/-- Settles O27. -/
theorem deleteToolMakesItUndefined : Obligations.DeleteToolMakesItUndefined := by
  intro s tool hp hwf
  refine ⟨_, congrArg Host.Outcome.next (State.request_of_powered hp _), ?_⟩
  split
  · next bad => exact refused_of (by simp [State.deleteTool, isToolNumber_of_bad bad])
  · next good =>
    have number := isToolNumber_of_good good
    split
    · next hn => exact refused_of (by simp [State.deleteTool, number, hn])
    · next x hx =>
      split
      · next hs => exact refused_of (by simp [State.deleteTool, number, hx, hs])
      · next hs =>
        split
        · next hg => exact refused_of (by simp_all [State.deleteTool])
        · next hg =>
          have work : s.atWork.deleteTool tool =
              (((s.atWork.commit [s.atWork.oldTool tool]).eraseTool tool).forgetInIncidents tool).accept .ok := by
            unfold State.deleteTool
            rw [number, State.atWork_toolGet, hx, if_pos rfl]
            exact (if_neg hs).trans (if_neg hg)
          rw [serve_taken work rfl]
          refine ⟨takenOk_of ?_, fun m => State.eraseTool_toolGet hwf .., fun st => perStation_get ..⟩
          exact fun y hy => by cases y <;> first | rfl | simp at hy

/-- Settles O31. -/
theorem clearTablesEmptiesBoth : Obligations.ClearTablesEmptiesBoth := by
  intro s hp
  refine ⟨_, congrArg Host.Outcome.next (State.request_of_powered hp _), fun ⟨e, he, hs⟩ => ?_, fun hs => ?_⟩
  · have busy : (s.atWork.tools.any fun e => decide (e.2.placement ≠ .store)) = true :=
      List.any_eq_true.2 ⟨e, he, by simpa using hs⟩
    exact refused_of (if_pos busy)
  · have free : ¬ (s.atWork.tools.any fun e => decide (e.2.placement ≠ .store)) = true := by simpa using hs
    have work : s.atWork.clearTables =
        (s.atWork.wipeTables.withIncidents (perStation fun st => { s.incident st with tool := 0 })).accept .ok := if_neg free
    rw [serve_taken work rfl]
    refine ⟨takenOk_of ?_, fun n => rfl, fun n => rfl, fun st => perStation_get ..⟩
    exact fun y hy => by cases y <;> first | rfl | simp at hy

/-! ### DEFINE_TOOL -/

theorem setting_value {lo hi v : Nat} (h : lo ≤ hi) : (setting lo hi v).value = max lo (min hi v) := by
  unfold setting clamp
  dsimp only
  split
  · omega
  · split <;> omega

theorem setting_clamped {lo hi v : Nat} : (setting lo hi v).clamped = true ↔ v < lo ∨ hi < v := by
  unfold setting clamp
  simp only [decide_eq_true_eq]
  split
  · omega
  · split <;> omega

theorem settingOr_value {d lo hi v : Nat} (h : lo ≤ hi) :
    (settingOr d lo hi v).value = if v = 0 then d else max lo (min hi v) := by
  unfold settingOr
  split
  · rfl
  · exact setting_value h

theorem settingOr_clamped {d lo hi v : Nat} :
    (settingOr d lo hi v).clamped = true ↔ v ≠ 0 ∧ (v < lo ∨ hi < v) := by
  unfold settingOr
  split
  · simp [*]
  · simp [*, setting_clamped]

section Define

variable (k : Kind) (tag limit warn thr n l s low high stock depth nominal : Nat)

theorem newTool_clamped : (newTool k tag limit warn thr n l s low high stock depth nominal).2 = true ↔
    limit = 0 ∨ 4000000 < limit ∨ (warn ≠ 0 ∧ (warn < 50 ∨ 99 < warn)) ∨ 4095 < thr ∨ 64 < n ∨ 16 < l ∨ 8 < s ∨
      (low ≠ 0 ∧ (low < 128 ∨ 1023 < low)) ∨ (high ≠ 0 ∧ (high < 1025 ∨ 8191 < high)) ∨
      (k = .wheel ∧ (20000 < stock ∨ 200 < depth)) ∨ (k = .dresser ∧ 200 < nominal) := by
  unfold newTool
  cases k <;> simp only [Bool.or_eq_true, setting_clamped, settingOr_clamped, reduceCtorEq, true_and, false_and,
    Bool.false_eq_true, or_false, false_or] <;> omega

/-- The record of DEFINE_TOOL, with the defaults and the clamps of Table 1-1 (R13). -/
theorem newTool_record : (newTool k tag limit warn thr n l s low high stock depth nominal).1 =
    { kind := k
      tag := tag
      group := 0
      placement := .store
      condition := .sound
      limit := max 1 (min 4000000 limit)
      warnPercent := if warn = 0 then 90 else max 50 (min 99 warn)
      used := 0
      threshold := if thr = 0 then 3000 else min 4095 thr
      persistence := if n = 0 then 8 else min 64 n
      learnCount := if l = 0 then 4 else min 16 l
      shift := if s = 0 then 4 else min 8 s
      lowBound := if low = 0 then 614 else max 128 (min 1023 low)
      highBound := if high = 0 then 1638 else max 1025 (min 8191 high)
      stock := if k = .wheel then min 20000 stock else 0
      dressDepth := if k = .dresser then 0 else if depth = 0 then 5 else min 200 depth
      nominalDepth := if k = .wheel then 0 else if nominal = 0 then 5 else min 200 nominal
      dressCount := 0
      refs := Vector.replicate 4 ⟨.unlearned, 0, 0, 0⟩
      tallies := ⟨0, 0, 0, 0⟩ } := by
  have setOr : ∀ d hi v, 1 ≤ hi → (settingOr d 1 hi v).value = if v = 0 then d else min hi v := fun d hi v h => by
    rw [settingOr_value h]
    split
    · rfl
    · omega
  unfold newTool
  cases k <;> simp only [setting_value, setOr, settingOr_value, Nat.reduceLeDiff, reduceCtorEq, if_true, if_false, Nat.zero_max] <;> rfl

theorem newTool_lifeCondition : (newTool k tag limit warn thr n l s low high stock depth nominal).1.lifeCondition =
    if k = .wheel ∧ (newTool k tag limit warn thr n l s low high stock depth nominal).1.stock <
      (newTool k tag limit warn thr n l s low high stock depth nominal).1.dressDepth then .spent else .sound := by
  refine (Tool.lifeCondition_of_unused ?_ ?_ ?_).trans (by rw [newTool_record])
  · rw [newTool_record]
  · rw [newTool_record]; dsimp only; omega
  · rw [newTool_record]; dsimp only; split <;> omega

end Define

theorem kindArg_eq_some {n : Nat} {k : Kind} : kindArg n = some k ↔ n = 0 ∧ k = .wheel ∨ n = 1 ∧ k = .dresser := by
  unfold kindArg
  split <;> simp_all [eq_comm]

theorem kindArg_of_good {n : Nat} (h : ¬ 1 < n) : kindArg n = some (if n = 0 then .wheel else .dresser) := by
  obtain rfl | rfl : n = 0 ∨ n = 1 := by omega
  · rfl
  · rfl

/-- Settles O24. -/
theorem defineToolMakesTheRecord : Obligations.DefineToolMakesTheRecord := by
  intro s tool kind tag limit warn thr n l k low high stock depth nominal hp
  refine ⟨_, congrArg Host.Outcome.next (State.request_of_powered hp _), ?_⟩
  split
  · next bad =>
    refine refused_of ?_
    by_cases hk : 1 < kind
    · have hnone : kindArg kind = none := by
        cases hk' : kindArg kind with
        | none => rfl
        | some k => rcases kindArg_eq_some.1 hk' with ⟨rfl, _⟩ | ⟨rfl, _⟩ <;> omega
      unfold State.defineTool
      rw [hnone]
      cases isToolNumber tool <;> rfl
    · have hnum := isToolNumber_of_bad (n := tool) (by tauto)
      unfold State.defineTool
      rw [hnum]
  · next good =>
    have number : isToolNumber tool = true := isToolNumber_of_good (by tauto)
    have hkind := kindArg_of_good (n := kind) (by tauto)
    split
    · next hn =>
      obtain ⟨x, hx⟩ := Option.ne_none_iff_exists'.1 hn
      refine refused_of ?_
      unfold State.defineTool
      rw [number, hkind, State.atWork_toolGet, hx]
    · next hn =>
      generalize hk : (if kind = 0 then Kind.wheel else Kind.dresser) = ty at hkind
      have wheel : ty = .wheel ↔ kind = 0 := by
        rcases kindArg_eq_some.1 hkind with ⟨rfl, rfl⟩ | ⟨rfl, rfl⟩ <;> simp
      have dresser : ty = .dresser ↔ kind = 1 := by
        rcases kindArg_eq_some.1 hkind with ⟨rfl, rfl⟩ | ⟨rfl, rfl⟩ <;> simp
      have work : s.atWork.defineTool tool kind tag limit warn thr n l k low high stock depth nominal =
          (s.atWork.writeTool tool (newTool ty tag limit warn thr n l k low high stock depth nominal).1.forced).accept
            (taken (newTool ty tag limit warn thr n l k low high stock depth nominal).2) := by
        unfold State.defineTool
        rw [number, hkind, State.atWork_toolGet, not_not.1 hn]
        rfl
      rw [serve_taken work rfl]
      refine ⟨?_, _, fun m => State.setTool_toolGet .., ?_⟩
      · unfold taken
        simp only [newTool_clamped, wheel, dresser]
        exact takenOk_of (s.atWork.writeTool_frame tool _)
      · unfold Tool.forced
        rw [newTool_lifeCondition, newTool_record]
        simp only [wheel, dresser]

end Sys2Proof.Machine
end

section
/-! Reply bodies as runs of big-endian fields, and READ_TOOL. -/

namespace Sys2Proof.Machine

/-! ### Bodies that are runs of fields -/

theorem length_be (k v : Nat) : (be k v).length = k := by
  induction k with
  | zero => rfl
  | succ k ih => simp [be, ih]

theorem foldl_be (k v acc : Nat) :
    (be k v).foldl (fun acc b => acc * 256 + b.toNat) acc = acc * 256 ^ k + v % 256 ^ k := by
  induction k generalizing acc with
  | zero => simp [be, Nat.mod_one]
  | succ k ih =>
    have high : v % 256 ^ (k + 1) = v % 256 ^ k + 256 ^ k * (v / 256 ^ k % 256) := by rw [pow_succ, Nat.mod_mul]
    rw [be, List.foldl_cons, ih, high, BitVec.toNat_ofNat, show 2 ^ 8 = 256 from rfl, pow_succ]
    ring

/-- The bytes of a number spell it, but for what does not fit (R165). -/
theorem num_be (k v : Nat) : num (be k v) = v % 256 ^ k := by
  rw [num, foldl_be, Nat.zero_mul, Nat.zero_add]

/-- Fields, each a width and a value, one after the other. -/
def layout (l : List (Nat × Nat)) : List Byte := l.flatMap fun x => be x.1 x.2

/-- The fields of a layout with the offsets they have when the first stands at `start`. -/
def offsets : (start : Nat) → List (Nat × Nat) → List (Nat × Nat × Nat)
  | _, [] => []
  | start, (k, v) :: rest => (start, k, v) :: offsets (start + k) rest

theorem offsets_append (start : Nat) (l m : List (Nat × Nat)) :
    offsets start (l ++ m) = offsets start l ++ offsets (start + (l.map Prod.fst).sum) m := by
  induction l generalizing start with
  | nil => rfl
  | cons e rest ih => simp [offsets, ih, Nat.add_assoc]

theorem length_layout (l : List (Nat × Nat)) : (layout l).length = (l.map Prod.fst).sum := by
  simp [layout, List.length_flatMap, length_be]

theorem field_layout (l : List (Nat × Nat)) (before : List Byte) :
    bodyHolds (before ++ layout l) (offsets before.length l) := by
  induction l generalizing before with
  | nil => intro x hx; cases hx
  | cons e rest ih =>
    obtain ⟨k, v⟩ := e
    intro x hx
    rcases List.mem_cons.1 hx with rfl | hx
    · simp only [field, layout, List.flatMap_cons, List.drop_left]
      rw [List.take_left' (length_be k v), num_be]
    · have := ih (before ++ be k v) x (by rwa [List.length_append, length_be])
      rwa [List.append_assoc] at this

/-- A body that is a layout holds each of its fields. -/
theorem bodyHolds_layout {l : List (Nat × Nat)} {fields : List (Nat × Nat × Nat)} (h : fields ⊆ offsets 0 l) :
    bodyHolds (layout l) fields := fun x hx => field_layout l [] x (h hx)

/-! ### READ_TOOL -/

/-- The fields of a class reference in Table 10-6. -/
def ClassRef.layout (x : ClassRef) : List (Nat × Nat) := [(1, x.state.code), (1, x.n), (5, x.sum), (4, x.value)]

/-- The fields of Table 10-6 before the class references. -/
def Tool.layoutBefore (t : Tool) (n : Nat) : List (Nat × Nat) :=
  [(1, n), (1, t.kind.code), (2, t.tag), (1, t.group), (1, t.placement.code), (1, t.placement.positionCode),
    (1, t.condition.code), (4, t.limit), (1, t.warnPercent), (4, t.used), (2, t.threshold), (1, t.persistence),
    (1, t.learnCount), (1, t.shift), (2, t.lowBound), (2, t.highBound), (2, t.stock), (1, t.dressDepth), (1, t.nominalDepth),
    (4, t.dressCount), (2, t.tallies.burst), (2, t.tallies.underload), (2, t.tallies.overload), (2, t.tallies.contactLoss)]

/-- The class references in Table 10-6. -/
def Tool.layoutRefs (t : Tool) : List (Nat × Nat) :=
  t.refs[0].layout ++ (t.refs[1].layout ++ (t.refs[2].layout ++ t.refs[3].layout))

/-- The fields of Table 10-6 after the class references. -/
def Tool.layoutAfter (t : Tool) : List (Nat × Nat) := [(4, t.limitUnits), (4, t.warnUnits), (4, t.remainingPasses)]

/-- The fields of Table 10-6. -/
def Tool.layout (t : Tool) (n : Nat) : List (Nat × Nat) := t.layoutBefore n ++ (t.layoutRefs ++ t.layoutAfter)

theorem Tool.bytes_eq_layout (t : Tool) (n : Nat) : t.bytes n = Machine.layout (t.layout n) := by
  unfold Tool.bytes Tool.layout Tool.layoutBefore Tool.layoutRefs Tool.layoutAfter ClassRef.bytes ClassRef.layout Tallies.bytes Machine.layout
  generalize be = bytes
  simp only [List.flatMap_append, List.flatMap_cons, List.flatMap_nil, List.append_assoc, List.append_nil]

/-- The fields of the three parts of Table 10-6, at their offsets. -/
theorem Tool.offsets_layout (t : Tool) (n : Nat) : offsets 0 (t.layout n) =
    offsets 0 (t.layoutBefore n) ++ (offsets 42 t.refs[0].layout ++ (offsets 53 t.refs[1].layout ++
      (offsets 64 t.refs[2].layout ++ offsets 75 t.refs[3].layout)) ++ offsets 86 t.layoutAfter) := by
  have before : ((t.layoutBefore n).map Prod.fst).sum = 42 := by simp [Tool.layoutBefore]
  have ref : ∀ x : ClassRef, (x.layout.map Prod.fst).sum = 11 := fun x => by simp [ClassRef.layout]
  simp only [Tool.layout, Tool.layoutRefs, offsets_append, List.map_append, List.sum_append, before, ref, Nat.reduceAdd]

/-- A class reference of a tool stands at its offset in Table 10-6. -/
theorem Tool.offsets_ref (t : Tool) (n : Nat) (c : Fin 4) : offsets (42 + 11 * c.val) t.refs[c].layout ⊆ offsets 0 (t.layout n) := by
  rw [t.offsets_layout]
  intro e he
  fin_cases c <;> simp only [List.mem_append]
  · exact .inr (.inl (.inl he))
  · exact .inr (.inl (.inr (.inl he)))
  · exact .inr (.inl (.inr (.inr (.inl he))))
  · exact .inr (.inl (.inr (.inr (.inr he))))

/-- Settles O26. -/
theorem readToolReturnsTheRecord : Obligations.ReadToolReturnsTheRecord := by
  intro s tool hp
  refine ⟨_, congrArg Host.Outcome.next (State.request_of_powered hp _), ?_⟩
  split
  · next bad => exact refused_of (by simp [State.readTool, isToolNumber_of_bad bad])
  · next good =>
    have number := isToolNumber_of_good good
    split
    · next hn => exact refused_of (by simp [State.readTool, number, hn])
    · next x hx =>
      have work : s.atWork.readTool tool = ⟨s.atWork, .ok, x.bytes tool⟩ := by
        unfold State.readTool
        rw [number, State.atWork_toolGet, hx]
        rfl
      rw [serve_taken (t := s.atWork) (body := x.bytes tool) work rfl, x.bytes_eq_layout]
      have alone : onlyChanges [.journal] s.atWork s.atWork := fun y _ => by cases y <;> rfl
      have fields : offsets 0 (x.layoutBefore tool) ++ offsets 86 x.layoutAfter ⊆ offsets 0 (x.layout tool) := by
        rw [x.offsets_layout]
        exact List.append_subset.2
          ⟨List.subset_append_left .., List.subset_append_of_subset_right _ (List.subset_append_right ..)⟩
      refine ⟨layout (x.layout tool), rfl, onlyChanges_withLink (parts := []) alone, ?_, bodyHolds_layout fields,
        fun c => bodyHolds_layout ?_⟩
      · simp [length_layout, Tool.layout, Tool.layoutBefore, Tool.layoutRefs, Tool.layoutAfter, ClassRef.layout]
      · convert x.offsets_ref tool c using 1
        simp [offsets, ClassRef.layout]
        omega

end Sys2Proof.Machine
end

section
/-! The scan of a group, and what eligible means. -/

namespace Sys2Proof.Machine

theorem Tool.remainingPasses_eq (x : Tool) : x.remainingPasses = (1024 * x.limit - x.used) / 1024 := by
  unfold remainingPasses limitUnits
  split <;> omega

/-- The scan's index at each step (R127). -/
def Group.visits (g : Group) (i : Nat) : Nat :=
  match g.policy with
  | .chain => i
  | .rotate => (g.cursor + 1 + i) % g.chain.length

theorem Group.scanOrder_eq (g : Group) : g.scanOrder = (List.range g.chain.length).map g.visits := by
  unfold scanOrder visits
  cases g.policy with
  | chain => exact (List.map_id _).symm
  | rotate => rfl

/-- Going round from any start visits every index below the length. -/
theorem exists_add_mod_eq (c : Nat) {i n : Nat} (h : i < n) : ∃ k < n, (c + k) % n = i := by
  refine ⟨(i + (n - c % n)) % n, Nat.mod_lt _ (by omega), ?_⟩
  have whole : c + (i + (n - c % n)) = i + n * (c / n + 1) := by
    have := Nat.div_add_mod c n
    have := Nat.mod_lt c (by omega : 0 < n)
    rw [Nat.mul_add]
    omega
  rw [Nat.add_mod_mod, whole, Nat.add_mul_mod_self_left, Nat.mod_eq_of_lt h]

theorem Group.exists_visits (g : Group) {i : Nat} (h : i < g.chain.length) : ∃ k < g.chain.length, g.visits k = i := by
  unfold visits
  cases g.policy with
  | chain => exact ⟨i, h, rfl⟩
  | rotate => exact exists_add_mod_eq _ h

/-- A scan chooses the first eligible member that it visits (R126, R127). -/
theorem State.scan_eq_some_iff (s : State) (g : Group) (i : Nat) : s.scan g = some i ↔
    ∃ k < g.chain.length, i = g.visits k ∧ s.eligibleAt g i = true ∧ ∀ j < k, s.eligibleAt g (g.visits j) = false := by
  rw [State.scan, g.scanOrder_eq, List.find?_eq_some_iff_getElem]
  constructor
  · rintro ⟨he, k, hk, hi, hj⟩
    simp only [List.length_map, List.length_range, List.getElem_map, List.getElem_range, Bool.not_eq_true'] at hk hi hj
    exact ⟨k, hk, hi.symm, he, hj⟩
  · rintro ⟨k, hk, hi, he, hj⟩
    exact ⟨he, k, by simpa using hk, by simpa using hi.symm, fun j hjk => by simpa using hj j hjk⟩

theorem State.scan_eq_none_iff (s : State) (g : Group) :
    s.scan g = none ↔ ∀ i < g.chain.length, s.eligibleAt g i = false := by
  rw [State.scan, g.scanOrder_eq, List.find?_eq_none]
  simp only [List.mem_map, List.mem_range, Bool.not_eq_true]
  constructor
  · intro h i hi
    obtain ⟨k, hk, rfl⟩ := g.exists_visits hi
    exact h _ ⟨k, hk, rfl⟩
  · rintro h _ ⟨k, _, rfl⟩
    by_contra he
    obtain ⟨n, t, hn, _⟩ := State.eligibleAt_iff.1 (Bool.eq_true_of_not_eq_false he)
    exact he (h _ (List.getElem?_eq_some_iff.1 hn).1)

theorem Tool.isReserved_iff (x : Tool) : x.isReserved = true ↔ ∃ p, x.placement = .reserved p := by
  unfold isReserved
  split <;> simp_all

theorem State.eligibleNow_iff (s : State) (x : Tool) :
    s.eligibleNow x = true ↔ x.group ≠ 0 ∧ ∃ g, s.group? x.group = some g ∧ x.eligible g.margin = true := by
  unfold eligibleNow groupOf
  by_cases h0 : x.group = 0
  · simp [h0]
  · cases hg : s.group? x.group <;> simp [h0]

theorem State.wasEligibleMember_iff (s : State) (group n : Nat) : s.wasEligibleMember group n = true ↔
    ∃ g x, s.group? group = some g ∧ n ∈ g.chain ∧ s.tool? n = some x ∧ x.eligible g.margin = true := by
  unfold wasEligibleMember
  cases s.group? group with
  | none => simp
  | some g => cases s.tool? n <;> simp

theorem State.toolReserved_iff (s : State) (n : Nat) :
    s.toolReserved n = true ↔ ∃ x p, s.tool? n = some x ∧ x.placement = .reserved p := by
  unfold toolReserved
  cases s.tool? n with
  | none => simp
  | some x => simp [Tool.isReserved_iff]

/-- Settles O35. -/
theorem scanChoosesFirstEligible : Obligations.ScanChoosesFirstEligible := by
  refine ⟨fun s g order eligible horder heligible => ?_, fun s eligible heligible => ?_⟩
  · have visits : order = g.visits := funext fun i => (horder i).trans (by unfold Group.visits; cases g.policy <;> rfl)
    have now : ∀ i, eligible i ↔ s.eligibleAt g i = true := fun i => by
      rw [heligible, State.eligibleAt_iff]
      simp only [Tool.eligible_iff, Tool.remainingPasses_eq]
    simp only [visits, now, Bool.not_eq_true]
    exact ⟨s.scan_eq_none_iff g, s.scan_eq_some_iff g⟩
  · have now : ∀ x margin, x.eligible margin = true ↔ eligible x margin := fun x margin => by
      rw [heligible, Tool.eligible_iff, Tool.remainingPasses_eq]
    simp only [← now]
    refine ⟨fun _ _ => trivial, s.eligibleNow_iff, s.wasEligibleMember_iff, s.toolReserved_iff, fun n => ⟨fun hn => ?_, fun x hx => ?_⟩⟩
    · unfold State.reportIfEligible; rw [hn]
    · unfold State.reportIfEligible; rw [hx]

end Sys2Proof.Machine
end

section
/-! POWER_ON and RESET_SUPERVISOR: every block from its reset values. -/

namespace Sys2Proof.Machine

/-- A RESERVED tool returns to STORE, every other stays (R23). -/
theorem Tool.released_eq (y : Tool) [Decidable (∃ p, y.placement = .reserved p)] :
    y.released = if ∃ p, y.placement = .reserved p then { y with placement := .store } else y := by
  unfold released
  split <;> simp_all

namespace State

variable (s : State)

theorem resetBlocks_monitor (st : Fin 6) : s.resetBlocks.monitor st = freshMonitor (s.config st).present := perStation_get ..

theorem resetBlocks_capture (st : Fin 6) : s.resetBlocks.capture st = Capture.empty := perStation_get ..

theorem resetBlocks_incident (st : Fin 6) : s.resetBlocks.incident st = Incident.cleared := perStation_get ..

theorem resetBlocks_flag (st : Fin 6) : s.resetBlocks.flag st = ⟨(s.config st).present, false, false⟩ := perStation_get ..

theorem released_placement_mounted (n : Nat) (p : Fin 12) :
    (∃ y, s.resetBlocks.tool? n = some y ∧ y.placement = .mounted p) ↔ ∃ y, s.tool? n = some y ∧ y.placement = .mounted p := by
  rw [resetBlocks_toolGet]
  cases s.tool? n with
  | none => simp
  | some y =>
    simp only [Option.map_some, Option.some.injEq, exists_eq_left', y.released_placement]
    cases y.placement <;> simp [Placement.afterReset]

variable {s}

/-- A position with no MOUNTED tool is EMPTY after a reset (R150). -/
theorem resetBlocks_position_of_none (hw : tableWf s.tools = true) {p : Fin 12}
    (h : ∀ n y, s.tool? n = some y → y.placement ≠ .mounted p) : s.resetBlocks.position p = ⟨.empty, 0, 0, 0⟩ := by
  rw [resetBlocks_position]
  refine rebuilt_of_none (tableWf_tableMap hw _) fun n y hn hy => ?_
  obtain ⟨z, hz, hp⟩ := (s.released_placement_mounted n p).1 ⟨y, hn, hy⟩
  exact h n z hz hp

/-- A position with one MOUNTED tool serves, or is DUE when the tool is not serviceable (R150). -/
theorem resetBlocks_position_of_one (hw : tableWf s.tools = true) {p : Fin 12} {n : Nat} {y : Tool} (hn : s.tool? n = some y)
    (hy : y.placement = .mounted p) (one : ∀ m z, s.tool? m = some z → z.placement = .mounted p → m = n) :
    s.resetBlocks.position p = ⟨if y.condition = .sound ∨ y.condition = .warned then .serving else .due, n, 0, 0⟩ := by
  have same : y.released = y := by unfold Tool.released; rw [hy]
  have hn' : s.resetBlocks.tool? n = some y := by rw [resetBlocks_toolGet, hn, Option.map_some, same]
  rw [resetBlocks_position, rebuilt_of_one (tableWf_tableMap hw _) hn' hy fun m z hm hz => ?_]
  · simp only [Condition.serviceable_iff]
  · obtain ⟨x, hx, hp⟩ := (s.released_placement_mounted m p).1 ⟨z, hm, hz⟩
    exact one m x hx hp

end State

/-- What the resets of POWER_ON and RESET_SUPERVISOR leave of the blocks, whatever the port becomes (R23, R31, R150). -/
structure Restarted (s t : State) : Prop where
  clock : t.clock = 0
  configs : t.configs = s.configs
  pending : t.pending = s.pending
  tools : ∀ n, t.tool? n = (s.tool? n).map Tool.released
  groups : ∀ n, t.group? n = (s.group? n).map fun g => { g with waiting := [] }
  monitor : ∀ st, t.monitor st = freshMonitor (s.config st).present
  capture : ∀ st, t.capture st = Capture.empty
  incident : ∀ st, t.incident st = Incident.cleared
  flag : ∀ st, t.flag st = ⟨(s.config st).present, false, false⟩
  notices : t.notices = NoticeQueues.fresh
  empty : ∀ p : Fin 12, (∀ n y, s.tool? n = some y → y.placement ≠ .mounted p) → t.position p = ⟨.empty, 0, 0, 0⟩
  seated : ∀ p n y, s.tool? n = some y → y.placement = .mounted p →
    (∀ m z, s.tool? m = some z → z.placement = .mounted p → m = n) →
    t.position p = ⟨if y.condition = .sound ∨ y.condition = .warned then .serving else .due, n, 0, 0⟩

theorem State.resetBlocks_powered (s : State) : s.resetBlocks.powered = s.powered := rfl

theorem State.resetBlocks_link (s : State) : s.resetBlocks.link = s.link := rfl

theorem State.resetBlocks_configs (s : State) : s.resetBlocks.configs = s.configs := rfl

theorem State.resetBlocks_pending (s : State) : s.resetBlocks.pending = s.pending := rfl

theorem restarted_resetBlocks {s : State} (hw : tableWf s.tools = true) : Restarted s s.resetBlocks := by
  constructor
  · unfold State.resetBlocks; dsimp only; rw [State.withClock_clock]
  · exact s.resetBlocks_configs
  · exact s.resetBlocks_pending
  · exact s.resetBlocks_toolGet
  · exact s.resetBlocks_groupGet
  · exact s.resetBlocks_monitor
  · exact s.resetBlocks_capture
  · exact s.resetBlocks_incident
  · exact s.resetBlocks_flag
  · unfold State.resetBlocks; dsimp only; rw [State.withClock_notices, State.withNotices_notices]
  · exact fun _ => State.resetBlocks_position_of_none hw
  · exact fun _ _ _ => State.resetBlocks_position_of_one hw

theorem Restarted.withLink {s t : State} (r : Restarted s t) (l : LinkPort) : Restarted s (t.withLink l) := by
  obtain ⟨h1, h2, h3, h4, h5, h6, h7, h8, h9, h10, h11, h12⟩ := r
  exact ⟨h1, h2, h3, h4, h5, h6, h7, h8, h9, h10, h11, h12⟩

/-- Settles O4. -/
theorem powerOnStartsEveryBlock : Obligations.PowerOnStartsEveryBlock := by
  intro s x hw
  have r : Restarted (s.beginEvent.withPowered true) (s.takePowerOn x) := by
    unfold State.takePowerOn
    exact (restarted_resetBlocks (s := s.beginEvent.withPowered true) hw).withLink _
  have powered : (s.takePowerOn x).powered = true := by
    unfold State.takePowerOn
    rw [State.withLink_powered, State.resetBlocks_powered]
    rfl
  have link : (s.takePowerOn x).link = LinkPort.poweredOn x := by
    unfold State.takePowerOn
    rw [State.withLink_link]
  refine ⟨_, rfl, powered, r.clock, r.configs, r.pending, fun n => ?_, r.groups, r.monitor,
    fun st => ⟨r.capture st, r.incident st, r.flag st⟩, r.notices, link, r.empty, r.seated⟩
  refine (r.tools n).trans (congrArg (Option.map · (s.tool? n)) ?_)
  funext y
  exact y.released_eq

/-- Settles O10. -/
theorem supervisorResetWaitsForItsReply : Obligations.SupervisorResetWaitsForItsReply := by
  intro s hp
  refine ⟨⟨_, congrArg Host.Outcome.next (State.request_of_powered hp _), fun y hy => ?_, rfl⟩, fun hstate hpending hw => ?_⟩
  · cases y <;> first | rfl | simp at hy
  · have sent : (s.withJournal []).replySent =
        ((s.withJournal []).hunt).resetBlocks.withLink ((s.withJournal []).hunt).link.supervisorReset := by
      unfold State.replySent
      rw [State.withJournal_link, hstate]
      exact if_pos hpending
    have r : Restarted (s.withJournal []).hunt (s.withJournal []).hunt.resetBlocks := restarted_resetBlocks hw
    generalize hu : (s.withJournal []).hunt.resetBlocks = u at sent r
    have powered : u.powered = true := by rw [← hu, State.resetBlocks_powered]; exact hp
    refine ⟨_, congrArg Host.Outcome.next ((State.event_of_powered hp _).trans sent), rfl, powered, r.clock, r.configs, r.pending,
      fun n => ?_, r.groups, fun st => ⟨r.monitor st, r.capture st, r.incident st, r.flag st⟩, r.notices, r.empty, r.seated⟩
    refine (r.tools n).trans (congrArg (Option.map · (s.tool? n)) ?_)
    funext y
    exact y.released_eq

end Sys2Proof.Machine
end

section
/-! DISMOUNT and RESET_STATION: the seats they empty or rebuild, and the reports that follow. -/

namespace Sys2Proof.Machine

/-! ### DISMOUNT -/

namespace State

variable (s : State) (p : Fin 12)

/-- The writes of a taken DISMOUNT with the report of the change. -/
def dismounted : State := (s.unseat p).reportToolChange p

theorem dismounted_eq : s.dismounted p =
    (s.unseat p).setMonitor (stationOf p) ((s.monitor (stationOf p)).afterToolChange (seatKind p) false) := by
  unfold dismounted
  rw [reportToolChange_eq]
  congr 2
  exact congrArg (fun v : Vector Monitor 6 => v[stationOf p]) (by simp [unseat] : (s.unseat p).monitors = s.monitors)

theorem dismounted_frame : onlyChanges [.journal, .tools, .groups, .positions, .monitors] s (s.dismounted p) := by
  have left : onlyChanges [.journal, .tools, .groups, .positions, .monitors] s (s.leaveWaiting p) :=
    onlyChanges_mono (leaveWaiting_frame s p) (by decide)
  refine onlyChanges_trans left ?_
  rw [dismounted_eq]
  unfold unseat
  generalize s.leaveWaiting p = u
  refine onlyChanges_of ?_ ?_ ?_ ?_ ?_ ?_ ?_ ?_ ?_ ?_ ?_ ?_ ?_ ?_ <;> simp [place]

theorem dismounted_toolGet (m : Nat) : (s.dismounted p).tool? m =
    if m = (s.position p).active then (s.tool? m).map fun x => { x with placement := .store } else s.tool? m := by
  rw [dismounted_eq]
  by_cases h : m = (s.position p).active <;> simp [unseat, h]

theorem dismounted_groupGet (m : Nat) : (s.dismounted p).group? m =
    if (s.tool? (s.position p).active).map Tool.group = some m then (s.group? m).map fun g => g.leave p else s.group? m := by
  rw [dismounted_eq, ← leaveWaiting_groupGet]
  simp [unseat]

theorem dismounted_positions : oneBecomes p ⟨.empty, 0, 0, 0⟩ s.positions (s.dismounted p).positions := by
  have set : (s.dismounted p).positions = s.positions.set p Position.vacant := by rw [dismounted_eq]; simp [unseat]
  rw [set]
  exact oneBecomes_set _ _ _

theorem dismounted_monitors : oneBecomes (stationOf p) ((s.monitor (stationOf p)).afterToolChange (seatKind p) false) s.monitors
    (s.dismounted p).monitors := by
  have set : (s.dismounted p).monitors =
      s.monitors.set (stationOf p) ((s.monitor (stationOf p)).afterToolChange (seatKind p) false) := by
    rw [dismounted_eq]; simp [unseat]
  rw [set]
  exact oneBecomes_set _ _ _

/-- The report of the dismounted tool is that of the tool in STORE (R7, R130). -/
theorem dismounted_reportIfEligible {x : Tool} (hx : s.tool? (s.position p).active = some x) :
    (s.dismounted p).reportIfEligible (s.position p).active =
      (s.dismounted p).eventIf (s.eligibleNow { x with placement := .store }) x.group := by
  have margins : (s.dismounted p).eligibleNow { x with placement := .store } = s.eligibleNow { x with placement := .store } := by
    unfold eligibleNow groupOf
    dsimp only
    rw [dismounted_groupGet]
    cases s.group? x.group with
    | none => simp
    | some g => by_cases hg : x.group = 0 <;> simp [hg, hx, Group.leave]
  unfold reportIfEligible eventIf
  rw [dismounted_toolGet, if_pos rfl, hx]
  dsimp only [Option.map_some]
  rw [margins]

theorem dismounted_reportIfEligible_none (hx : s.tool? (s.position p).active = none) :
    (s.dismounted p).reportIfEligible (s.position p).active = s.dismounted p := by
  unfold reportIfEligible
  rw [dismounted_toolGet, if_pos rfl, hx]
  rfl

/-- A DISMOUNT of a position with a tool and no sister is taken (R149). -/
theorem dismount_taken (hp : (s.config (stationOf p)).present = true) (he : (s.position p).state ≠ .empty)
    (ho : (s.position p).state ≠ .ordered) (ht : (s.position p).state ≠ .timedOut) :
    s.dismount p.val = ((s.dismounted p).reportIfEligible (s.position p).active).accept .ok := by
  unfold dismount atPosition
  rw [positionArg_val, dismounted, ← takeDismount_eq]
  refine (if_pos hp).trans ?_
  beta_reduce
  split <;> first | rfl | exact absurd ‹_› ‹_›

end State

/-- Settles O47. -/
theorem dismountEmptiesThePosition : Obligations.DismountEmptiesThePosition := by
  intro s position hp
  refine ⟨_, congrArg Host.Outcome.next (State.request_of_powered hp _), fun far => ?_, ?_⟩
  · refine refused_of ?_
    unfold State.dismount State.atPosition
    rw [positionArg_of_gt far]
  · rintro p n rfl rfl
    split
    · next absent =>
      refine refused_of ?_
      unfold State.dismount State.atPosition
      rw [positionArg_val]
      exact if_neg (by simp [absent])
    · next hpres =>
      have present : (s.config (stationOf p)).present = true := by simpa using hpres
      split
      · next busy =>
        refine refused_of ?_
        unfold State.dismount State.atPosition
        rw [positionArg_val]
        refine (if_pos present).trans ?_
        rcases busy with h | h <;> simp [h]
      · next hbusy =>
        split
        · next empty =>
          refine refused_of ?_
          unfold State.dismount State.atPosition
          rw [positionArg_val]
          refine (if_pos present).trans ?_
          simp [empty]
        · next hempty =>
          have work := s.atWork.dismount_taken p present hempty (fun h => hbusy (.inl h)) fun h => hbusy (.inr h)
          have link : (s.atWork.dismounted p).link = s.link.executing := s.atWork.dismounted_frame p .link (by decide)
          refine ⟨(s.atWork.dismounted p).withLink (s.link.sending ⟨s.summaryByte, .ok, []⟩), takenOk_of (s.atWork.dismounted_frame p),
            s.atWork.dismounted_positions p, s.atWork.dismounted_monitors p, s.atWork.dismounted_toolGet p, ?_⟩
          split
          · next hx =>
            rw [s.atWork.dismounted_reportIfEligible_none p hx] at work
            refine ⟨?_, serve_taken work link⟩
            have stay : s.atWork.leaveWaiting p = s.atWork := by
              unfold State.leaveWaiting
              rw [State.atWork_position, State.atWork_toolGet, hx]
            rw [State.withLink_groups, State.dismounted_eq]
            simp [State.unseat, stay]
          · next x hx =>
            rw [s.atWork.dismounted_reportIfEligible p hx] at work
            have served := State.serve_taken_event (work := fun u => u.dismount p.val) work link
            refine ⟨fun m => ?_, served⟩
            refine (s.atWork.dismounted_groupGet p m).trans ?_
            rw [State.atWork_position, State.atWork_toolGet, hx]
            by_cases hm : m = x.group
            · subst hm
              rw [if_pos rfl, Option.map_some, if_pos rfl]
              rfl
            · rw [if_neg hm, if_neg fun h => hm (by simpa using h.symm)]
              rfl

end Sys2Proof.Machine
end

section
/-! RESET_STATION: one station from its power-on state, and the reports of the released sisters. -/

namespace Sys2Proof.Machine

theorem seatsOk.placed {s : State} (h : seatsOk s) : Placed s :=
  ⟨fun p n => (h.2.1 p n).trans State.placeAt_eq_some.symm, fun p n => (h.2.2 p n).trans State.placeAt_eq_some.symm⟩

theorem Placed.ofEq {s t : State} (h : Placed s) (ht : t.tools = s.tools) (hp : t.positions = s.positions) : Placed t := by
  obtain ⟨ha, hs⟩ := h
  constructor <;> simpa only [State.placeAt, State.tool?, State.position, ht, hp]

namespace State

variable (s : State) (st : Fin 6)

/-- The blocks of a station other than its seats as RESET_STATION leaves them (R31, R105). -/
def restartBlocks : State := ((s.resetMonitor st true).setIncident st Incident.cleared).setFlag st ⟨true, false, false⟩

theorem restartBlocks_frame : onlyChanges [.monitors, .captures, .incidents, .flags] s (s.restartBlocks st) := fun y hy => by
  cases y <;> first | rfl | simp at hy

theorem restartBlocks_position (p : Fin 12) : (s.restartBlocks st).position p = s.position p :=
  congrArg (fun v : Vector Position 12 => v[p]) (s.restartBlocks_frame st .positions (by decide))

theorem restartBlocks_seatOf (a : Nat) : (s.restartBlocks st).seatOf a = s.seatOf a := by
  have tools : (s.restartBlocks st).tools = s.tools := s.restartBlocks_frame st .tools (by decide)
  unfold seatOf tool?
  rw [tools]

/-- The eligibility reports of two released sisters, where there are any (R115). -/
def reportReleased (a b : Nat) (s : State) : State :=
  let v := if a = 0 then s else s.reportIfEligible a
  if b = 0 then v else v.reportIfEligible b

theorem reportReleased_link (a b : Nat) : (s.reportReleased a b).link = s.link := by
  unfold reportReleased
  dsimp only
  split <;> split <;> simp

theorem withLink_reportReleased (a b : Nat) (l : LinkPort) :
    (s.withLink l).reportReleased a b = (s.reportReleased a b).withLink l := by
  unfold reportReleased
  dsimp only
  split <;> split <;> simp [withLink_reportIfEligible]

theorem restartSeats_groupGet (n : Nat) : (s.restartSeats st).group? n =
    (s.group? n).map fun g => { g with waiting := g.waiting.filter fun q => decide (q ≠ wheelPos st ∧ q ≠ dresserPos st) } := by
  have read : (s.restartSeats st).group? n = ((s.group? n).map fun g => g.leave (wheelPos st)).map fun g => g.leave (dresserPos st) := by
    unfold restartSeats restartTables
    simp
  rw [read, Option.map_map]
  congr 1
  funext g
  simp [Group.leave, List.filter_filter, and_comm]

/-- A released sister, when number 0 is no tool. -/
theorem releaseAt_toolGet_of_none {s : State} (h0 : s.tool? 0 = none) (p : Fin 12) (n : Nat) : (s.releaseAt p).tool? n =
    if n = (s.position p).sister then (s.tool? n).map fun x => { x with placement := .store } else s.tool? n := by
  rw [releaseAt_toolGet]
  by_cases hn : n = 0
  · subst hn; simp [h0]
  · simp only [hn, not_false_eq_true, ne_eq, and_true]

/-- Two sisters are released. -/
theorem releaseTwo_toolGet {s : State} (h0 : s.tool? 0 = none) (p q : Fin 12) (n : Nat) :
    ((s.releaseAt p).releaseAt q).tool? n = if n = (s.position p).sister ∨ n = (s.position q).sister then
      (s.tool? n).map fun x => { x with placement := .store } else s.tool? n := by
  have h0' : (s.releaseAt p).tool? 0 = none := by rw [releaseAt_toolGet_of_none h0, h0]; exact ite_self _
  rw [releaseAt_toolGet_of_none h0', releaseAt_toolGet_of_none h0, releaseAt_position]
  by_cases hq : n = (s.position q).sister <;> by_cases hp : n = (s.position p).sister
  · rw [if_pos hq, if_pos hp, if_pos (.inr hq), Option.map_map]; rfl
  · rw [if_pos hq, if_neg hp, if_pos (.inr hq)]
  · rw [if_neg hq, if_pos hp, if_pos (.inl hp)]
  · rw [if_neg hq, if_neg hp, if_neg (not_or.2 ⟨hp, hq⟩)]

/-- The released sisters are in STORE, the other tools stand (R115). -/
theorem restartSeats_toolGet (hw : tableWf s.tools = true) (n : Nat) : (s.restartSeats st).tool? n =
    if n = (s.position (wheelPos st)).sister ∨ n = (s.position (dresserPos st)).sister then
      (s.tool? n).map fun x => { x with placement := .store } else s.tool? n := by
  have read : (s.restartSeats st).tool? n = (s.restartTables st).tool? n := rebuildSeats_toolGet ..
  have none : ((s.leaveAll (wheelPos st)).leaveAll (dresserPos st)).tool? 0 = .none := tableGet_none_of_le hw (Nat.le_refl 0)
  rw [read, restartTables]
  exact releaseTwo_toolGet none _ _ n

/-- A station after RESET_STATION, before the reports. -/
def restarted : State := (s.restartBlocks st).restartSeats st

theorem takeStationReset_eq : s.takeStationReset st = reportReleased (s.position (wheelPos st)).sister
    (s.position (dresserPos st)).sister (s.restarted st) := rfl

theorem restarted_frame : onlyChanges [.journal, .tools, .groups, .monitors, .captures, .incidents, .flags, .positions] s
    (s.restarted st) :=
  onlyChanges_trans (onlyChanges_mono (s.restartBlocks_frame st) (by decide))
    (onlyChanges_mono ((s.restartBlocks st).restartSeats_frame st) (by decide))

theorem restarted_monitors : (s.restarted st).monitors = s.monitors.set st (freshMonitor true) :=
  (s.restartBlocks st).restartSeats_frame st .monitors (by decide)

theorem restarted_captures : (s.restarted st).captures = s.captures.set st Capture.empty :=
  (s.restartBlocks st).restartSeats_frame st .captures (by decide)

theorem restarted_incidents : (s.restarted st).incidents = s.incidents.set st Incident.cleared :=
  (s.restartBlocks st).restartSeats_frame st .incidents (by decide)

theorem restarted_flags : (s.restarted st).flags = s.flags.set st ⟨true, false, false⟩ :=
  (s.restartBlocks st).restartSeats_frame st .flags (by decide)

theorem restarted_groupGet (n : Nat) : (s.restarted st).group? n =
    (s.group? n).map fun g => { g with waiting := g.waiting.filter fun q => decide (q ≠ wheelPos st ∧ q ≠ dresserPos st) } := by
  have groups : (s.restartBlocks st).group? n = s.group? n :=
    congrArg (tableGet · n) (s.restartBlocks_frame st .groups (by decide))
  rw [restarted, restartSeats_groupGet, groups]

theorem restarted_toolGet (hw : tableWf s.tools = true) (n : Nat) : (s.restarted st).tool? n =
    if n = (s.position (wheelPos st)).sister ∨ n = (s.position (dresserPos st)).sister then
      (s.tool? n).map fun x => { x with placement := .store } else s.tool? n := by
  have tools : (s.restartBlocks st).tools = s.tools := s.restartBlocks_frame st .tools (by decide)
  have get : (s.restartBlocks st).tool? n = s.tool? n := congrArg (tableGet · n) tools
  rw [restarted, restartSeats_toolGet _ _ (tools ▸ hw), restartBlocks_position, restartBlocks_position, get]

theorem restarted_position (h : Placed s) (hw : tableWf s.tools = true) (p : Fin 12) : (s.restarted st).position p =
    if p = wheelPos st ∨ p = dresserPos st then s.seatOf (s.position p).active else s.position p := by
  have tools : (s.restartBlocks st).tools = s.tools := s.restartBlocks_frame st .tools (by decide)
  have placed : Placed (s.restartBlocks st) := h.ofEq tools (s.restartBlocks_frame st .positions (by decide))
  rw [restarted, placed.restartSeats_position (tools ▸ hw), restartBlocks_position, restartBlocks_seatOf]

end State

/-- Settles O44. -/
theorem resetStationStartsItAgain : Obligations.ResetStationStartsItAgain := by
  intro s station hp hw hseats
  refine ⟨_, congrArg Host.Outcome.next (State.request_of_powered hp _), fun far => ?_, ?_⟩
  · refine refused_of ?_
    unfold State.resetStation State.atStation
    rw [stationArg_of_gt far]
  · rintro st w d rfl rfl rfl
    split
    · next absent =>
      refine refused_of ?_
      unfold State.resetStation State.atStation
      rw [stationArg_val]
      exact if_neg (by simp [absent])
    · next hpres =>
      have present : (s.config st).present = true := by simpa using hpres
      have work : s.atWork.resetStation st.val = (s.atWork.takeStationReset st).accept .ok := by
        unfold State.resetStation State.atStation
        rw [stationArg_val]
        exact if_pos present
      rw [State.takeStationReset_eq, State.atWork_position, State.atWork_position] at work
      have link : (s.atWork.restarted st).link = s.link.executing := s.atWork.restarted_frame st .link (by decide)
      have served := serve_taken_then (work := fun u => u.resetStation st.val) work link (State.reportReleased_link ..)
        fun l => State.withLink_reportReleased ..
      refine ⟨(s.atWork.restarted st).withLink (s.link.sending ⟨s.summaryByte, .ok, []⟩), _,
        takenOk_of (s.atWork.restarted_frame st), ?_, ?_, ?_, ?_, fun n => ?_,
        fun n => ?_, fun p => ?_, rfl, served⟩
      · rw [State.withLink_monitors, State.restarted_monitors]; exact oneBecomes_set _ _ _
      · rw [State.withLink_captures, State.restarted_captures]; exact oneBecomes_set _ _ _
      · rw [State.withLink_incidents, State.restarted_incidents]; exact oneBecomes_set _ _ _
      · rw [State.withLink_flags, State.restarted_flags]; exact oneBecomes_set _ _ _
      · rw [State.withLink_groupGet, s.atWork.restarted_groupGet st, State.atWork_groupGet]
      · rw [State.withLink_toolGet, s.atWork.restarted_toolGet st hw, State.atWork_position, State.atWork_position, State.atWork_toolGet]
      · rw [State.withLink_position, s.atWork.restarted_position st (hseats.placed.ofEq rfl rfl) hw, State.atWork_position]
        rfl

end Sys2Proof.Machine
end

section
/-! The ordinary recompute of a tool's condition: the record, the notice of the crossing and the hand-over (R9, R11, R137). -/

namespace Sys2Proof.Machine

/-- The condition that an ordinary recompute gives, by the condition before it (R9). -/
theorem Tool.ordinaryCondition_eq (x : Tool) : x.ordinaryCondition = (match x.condition with
    | .broken => .broken
    | .withdrawn => .withdrawn
    | .overrun => if x.lifeCondition = .spent then .overrun else x.lifeCondition
    | .sound => x.lifeCondition
    | .warned => x.lifeCondition
    | .spent => x.lifeCondition) := by
  unfold ordinaryCondition
  cases x.condition <;> rfl

theorem Tool.lifeCondition_cases (x : Tool) :
    x.lifeCondition = .sound ∨ x.lifeCondition = .warned ∨ x.lifeCondition = .spent := by
  unfold lifeCondition; split_ifs <;> simp

/-- A condition that an ordinary recompute changes becomes SOUND, WARNED or SPENT. -/
theorem Tool.ordinaryCondition_of_ne {x : Tool} (h : x.ordinaryCondition ≠ x.condition) :
    x.ordinaryCondition = .sound ∨ x.ordinaryCondition = .warned ∨ x.ordinaryCondition = .spent := by
  have life := x.lifeCondition_cases
  rw [x.ordinaryCondition_eq] at h ⊢
  cases hc : x.condition <;> rw [hc] at h <;> rcases life with hl | hl | hl <;> simp_all

namespace State

variable (s : State)

/-- The routine queue's notice of a crossing, on the queues of `s` (R11, R79). -/
def crossedQueues (n : Nat) (old : Condition) (y : Tool) : NoticeQueues :=
  if old = .sound ∧ y.condition = .warned then
    s.notices.push false ⟨.warn, y.placement.seat.1, y.placement.seat.2, n, y.tag, y.used, 0, s.clock⟩
  else if (old = .sound ∨ old = .warned) ∧ y.condition = .spent then
    s.notices.push false ⟨.spent, y.placement.seat.1, y.placement.seat.2, n, y.tag,
      if 1024 * y.limit ≤ y.used then y.used else y.stock, if 1024 * y.limit ≤ y.used then 0 else 1, s.clock⟩
  else s.notices

theorem crossedQueues_self (n : Nat) (y : Tool) : s.crossedQueues n y.condition y = s.notices := by
  unfold crossedQueues
  cases y.condition <;> simp

theorem crossingNotice_eq {s : State} {n : Nat} {old : Condition} {y : Tool} (h0 : n ≠ 0)
    (h : s.tool? n = some y) : s.crossingNotice n old y = s.withNotices (s.crossedQueues n old y) := by
  have tag : s.tagOf n = y.tag := by simp [tagOf, h, h0]
  have limit : y.limitUnits = 1024 * y.limit := Nat.mul_comm ..
  unfold crossingNotice crossedQueues notify
  rw [tag, limit]
  split
  · rfl
  · split
    · split <;> rfl
    · rfl

end State

/-- What a recompute of tool `n` from condition `old` to the record `y` hands over: the SERVING position of a tool made SPENT
goes DUE, a DUE, WAITING or RUN_ON one of a tool that regained its life serves (R137). -/
def HandsOver (s t : State) (n : Nat) (old : Condition) (y : Tool) : Prop :=
  (∀ p, y.placement = .mounted p →
    if old ≠ .spent ∧ y.condition = .spent ∧ (s.position p).state = .serving then
      t.groups = s.groups ∧ oneBecomes p ⟨.due, (s.position p).active, 0, 0⟩ s.positions t.positions
    else if (old = .spent ∨ old = .overrun) ∧ y.condition.serviceable = true ∧
        ((s.position p).state = .due ∨ (s.position p).state = .waiting ∨ (s.position p).state = .runOn) then
      oneBecomes p ⟨.serving, (s.position p).active, 0, 0⟩ s.positions t.positions ∧
      ((s.position p).active = n → ∀ m, t.group? m =
        if m = y.group then (s.group? m).map fun g => { g with waiting := g.waiting.filter fun q => decide (q ≠ p) }
        else s.group? m)
    else t.groups = s.groups ∧ t.positions = s.positions) ∧
  ((∀ p, y.placement ≠ .mounted p) → t.groups = s.groups ∧ t.positions = s.positions)

namespace HandsOver

variable {s t : State} {n : Nat} {old : Condition} {y : Tool}

/-- A condition that stands hands nothing over. -/
theorem of_same (hg : t.groups = s.groups) (hp : t.positions = s.positions) : HandsOver s t n y.condition y := by
  refine ⟨fun p _ => ?_, fun _ => ⟨hg, hp⟩⟩
  rw [if_neg fun h => h.1 h.2.1, if_neg fun h => ?_]
  · exact ⟨hg, hp⟩
  · rcases h.1 with hc | hc <;> simp [hc, Condition.serviceable] at h

/-- The position goes to another state, and no list changes. -/
theorem rest_positions (s : State) (p : Fin 12) (x : PositionState) :
    oneBecomes p ⟨x, (s.position p).active, 0, 0⟩ s.positions (s.rest p x).positions := oneBecomes_set _ _ _

/-- The position goes back to SERVING and leaves the list of its tool's group. -/
theorem backToServing_reads {p : Fin 12} (hget : s.tool? n = some y) :
    oneBecomes p ⟨.serving, (s.position p).active, 0, 0⟩ s.positions (s.backToServing p).positions ∧
      ((s.position p).active = n → ∀ m, (s.backToServing p).group? m =
        if m = y.group then (s.group? m).map fun g => { g with waiting := g.waiting.filter fun q => decide (q ≠ p) }
        else s.group? m) := by
  constructor
  · have set : (s.backToServing p).positions = s.positions.set p ⟨.serving, (s.position p).active, 0, 0⟩ := by
      simp [State.backToServing, State.rest]
    rw [set]
    exact oneBecomes_set _ _ _
  · intro ha m
    have read : (s.backToServing p).group? m = (s.leaveWaiting p).group? m := rfl
    rw [read, State.leaveWaiting_groupGet, ha, hget]
    by_cases hm : m = y.group
    · subst hm; rw [if_pos rfl, Option.map_some, if_pos rfl]; rfl
    · rw [if_neg hm, Option.map_some, if_neg fun h => hm (Option.some.inj h).symm]

/-- The report of a regained life to a position. -/
theorem regained_reads {p : Fin 12} (hget : s.tool? n = some y) :
    if (s.position p).state = .due ∨ (s.position p).state = .waiting ∨ (s.position p).state = .runOn then
      oneBecomes p ⟨.serving, (s.position p).active, 0, 0⟩ s.positions (s.regained p).positions ∧
      ((s.position p).active = n → ∀ m, (s.regained p).group? m =
        if m = y.group then (s.group? m).map fun g => { g with waiting := g.waiting.filter fun q => decide (q ≠ p) }
        else s.group? m)
    else s.regained p = s := by
  unfold State.regained
  cases hst : (s.position p).state <;> simp only [reduceCtorEq, or_self, or_true, true_or, if_true, if_false]
  all_goals exact backToServing_reads hget

/-- The report of a condition to a position. -/
theorem of_conditionReport {p : Fin 12} (hget : s.tool? n = some y) (hy : y.placement = .mounted p) (hne : old ≠ y.condition)
    (hc : y.condition = .sound ∨ y.condition = .warned ∨ y.condition = .spent) :
    HandsOver s (s.conditionReport p old y.condition) n old y := by
  refine ⟨fun q hq => ?_, fun h => absurd hy (h p)⟩
  obtain rfl : q = p := by rw [hy] at hq; cases hq; rfl
  have regains : ∀ x : Condition, x = .sound ∨ x = .warned → s.conditionReport q old x =
      if old = .spent ∨ old = .overrun then s.regained q else s := by rintro x (rfl | rfl) <;> rfl
  by_cases hs : y.condition = .spent
  · have report : s.conditionReport q old y.condition = if (s.position q).state = .serving then s.rest q .due else s := by
      rw [hs]; rfl
    rw [report]
    by_cases hserve : (s.position q).state = .serving
    · rw [if_pos hserve, if_pos ⟨hs ▸ hne, hs, hserve⟩]
      exact ⟨rfl, rest_positions s q .due⟩
    · rw [if_neg hserve, if_neg fun h => hserve h.2.2, if_neg fun h => ?_]
      · exact ⟨rfl, rfl⟩
      · rw [hs] at h; exact absurd h.2.1 (by decide)
  · have hlife : y.condition = .sound ∨ y.condition = .warned := by tauto
    have serviceable : y.condition.serviceable = true := (Condition.serviceable_iff _).2 hlife
    rw [regains _ hlife, if_neg fun h => hs h.2.1]
    by_cases ho : old = .spent ∨ old = .overrun
    · rw [if_pos ho]
      have reads := regained_reads (p := q) hget
      by_cases hst : (s.position q).state = .due ∨ (s.position q).state = .waiting ∨ (s.position q).state = .runOn
      · rw [if_pos hst] at reads
        rw [if_pos ⟨ho, serviceable, hst⟩]
        exact reads
      · rw [if_neg hst] at reads
        rw [if_neg fun h => hst h.2.2, reads]
        exact ⟨rfl, rfl⟩
    · rw [if_neg ho, if_neg fun h => ho h.1]
      exact ⟨rfl, rfl⟩

/-- The hand-over of a condition change. -/
theorem of_handOver (hget : s.tool? n = some y) (hne : old ≠ y.condition)
    (hc : y.condition = .sound ∨ y.condition = .warned ∨ y.condition = .spent) :
    HandsOver s (s.handOver y.placement old y.condition) n old y := by
  unfold State.handOver
  split
  · next p hp => exact of_conditionReport hget hp hne hc
  · next p hp => exact ⟨fun q hq => absurd (hp.symm.trans hq) (by simp), fun _ => ⟨rfl, rfl⟩⟩
  · next hp => exact ⟨fun q hq => absurd (hp.symm.trans hq) (by simp), fun _ => ⟨rfl, rfl⟩⟩

/-- The hand-over speaks of the positions and the groups alone. -/
theorem congr {u : State} (h : HandsOver u t n old y) (hp : u.positions = s.positions) (hg : u.groups = s.groups) :
    HandsOver s t n old y := by
  have pos : ∀ p, u.position p = s.position p := fun p => by simp [State.position, hp]
  have get : ∀ m, u.group? m = s.group? m := fun m => by simp [State.group?, hg]
  unfold HandsOver at h ⊢
  simpa only [pos, get, hp, hg] using h

end HandsOver

namespace State

variable (s : State)

theorem backToServing_frame (p : Fin 12) : onlyChanges [.groups, .positions] s (s.backToServing p) :=
  onlyChanges_trans (onlyChanges_mono (leaveWaiting_frame s p) (by decide))
    (onlyChanges_mono (setPosition_frame (s.leaveWaiting p) p _) (by decide))

/-- A hand-over of a condition other than BROKEN touches groups and positions alone. -/
theorem handOver_frame (x : Placement) (old : Condition) {new : Condition} (hn : new ≠ .broken) :
    onlyChanges [.groups, .positions] s (s.handOver x old new) := by
  have same : onlyChanges [.groups, .positions] s s := fun y _ => by cases y <;> rfl
  unfold handOver
  split
  · next _ p =>
    rcases s.conditionReport_cases p old new with h | ⟨_, _, h⟩ | ⟨hb, _⟩ | h
    · rw [h]; exact same
    · rw [h]; exact onlyChanges_mono (setPosition_frame s p _) (by decide)
    · exact absurd hb hn
    · rw [h]; exact s.backToServing_frame p
  · exact same
  · exact same

variable {s}

/-- An ordinary recompute that changes the condition: the record, the notice and the hand-over. -/
theorem recompute_of_ne {n : Nat} {x : Tool} (h0 : n ≠ 0) (hx : s.tool? n = some x)
    (hne : x.ordinaryCondition ≠ x.condition) :
    s.recompute n = ((s.setTool n x.recomputed).withNotices (s.crossedQueues n x.condition x.recomputed)).handOver
      x.placement x.condition x.ordinaryCondition := by
  have get : (s.setTool n x.recomputed).tool? n = some x.recomputed := by simp
  unfold recompute
  rw [hx]
  dsimp only
  rw [if_neg hne]
  exact congrArg (fun u : State => u.handOver x.placement x.condition x.ordinaryCondition) (crossingNotice_eq h0 get)

theorem recompute_of_eq {n : Nat} {x : Tool} (hx : s.tool? n = some x) (he : x.ordinaryCondition = x.condition) :
    s.recompute n = s := by
  unfold recompute
  rw [hx]
  exact if_pos he

/-- An ordinary recompute, and all that it leaves as it was. -/
theorem recompute_leaves {n : Nat} {x : Tool} (h0 : n ≠ 0) (hx : s.tool? n = some x) :
    onlyChanges [.tools, .groups, .positions, .notices] s (s.recompute n) ∧
      toolBecomes n (some x.recomputed) s (s.recompute n) ∧
      recomputeLeaves s (s.recompute n) n x.condition x.recomputed := by
  have condition := x.ordinaryCondition_eq
  by_cases he : x.ordinaryCondition = x.condition
  · rw [recompute_of_eq hx he]
    refine ⟨fun y _ => by cases y <;> rfl, fun m => ?_, condition, ?_, ?_⟩
    · rw [Tool.recomputed_of_eq he]
      split
      · subst_vars; exact hx
      · rfl
    · rw [Tool.recomputed_of_eq he]; exact (s.crossedQueues_self n x).symm
    · rw [Tool.recomputed_of_eq he]; exact HandsOver.of_same rfl rfl
  · have life := Tool.ordinaryCondition_of_ne he
    have get : ((s.setTool n x.recomputed).withNotices (s.crossedQueues n x.condition x.recomputed)).tool? n =
        some x.recomputed := by simp
    have report := HandsOver.of_handOver get (Ne.symm he) life
    have frame := handOver_frame ((s.setTool n x.recomputed).withNotices (s.crossedQueues n x.condition x.recomputed))
      x.placement x.condition (new := x.ordinaryCondition) (by rcases life with h | h | h <;> simp [h])
    rw [recompute_of_ne h0 hx he]
    refine ⟨onlyChanges_trans (fun y hy => ?_) (onlyChanges_mono frame (by decide)), fun m => ?_, condition,
      frame .notices (by decide), report.congr rfl rfl⟩
    · cases y <;> first | rfl | simp at hy
    · have tools := congrArg (tableGet · m) (frame .tools (by decide))
      exact tools.trans (setTool_toolGet s n x.recomputed m)

end State

end Sys2Proof.Machine
end

section
/-! ADJUST_TOOL: the named fields, the recompute and the event that follow. -/

namespace Sys2Proof.Machine

theorem settingIf_value {b : Bool} {held lo hi v : Nat} (h : lo ≤ hi) :
    (settingIf b held lo hi v).value = if b then max lo (min hi v) else held := by
  unfold settingIf
  cases b
  · rfl
  · exact setting_value h

theorem settingIf_clamped {b : Bool} {held lo hi v : Nat} :
    (settingIf b held lo hi v).clamped = true ↔ b = true ∧ (v < lo ∨ hi < v) := by
  unfold settingIf
  cases b
  · simp
  · simp [setting_clamped]

section Adjust

variable (x : Tool) (bits tag limit warn thr n l k low high depth : Nat)

theorem Tool.adjusted_clamped : (x.adjusted bits tag limit warn thr n l k low high depth).2 = true ↔
    (bits.testBit 1 ∧ (limit = 0 ∨ 4000000 < limit)) ∨ (bits.testBit 2 ∧ (warn < 50 ∨ 99 < warn)) ∨
      (bits.testBit 3 ∧ (thr = 0 ∨ 4095 < thr)) ∨ (bits.testBit 4 ∧ (n = 0 ∨ 64 < n)) ∨
      (bits.testBit 5 ∧ (l = 0 ∨ 16 < l)) ∨ (bits.testBit 6 ∧ (k = 0 ∨ 8 < k)) ∨
      (bits.testBit 7 ∧ (low < 128 ∨ 1023 < low)) ∨ (bits.testBit 8 ∧ (high < 1025 ∨ 8191 < high)) ∨
      (bits.testBit 9 ∧ (depth = 0 ∨ 200 < depth)) := by
  unfold Tool.adjusted
  simp only [Bool.or_eq_true, settingIf_clamped, Nat.lt_one_iff, Bool.and_eq_true, decide_eq_true_eq, or_assoc]
  cases x.kind <;> simp

/-- The value that a change set gives to a field. -/
def namedValue (bits b held lo hi v : Nat) : Nat := if bits.testBit b then max lo (min hi v) else held

theorem settingIf_named {b held lo hi v : Nat} (h : lo ≤ hi) :
    (settingIf (bits.testBit b) held lo hi v).value = namedValue bits b held lo hi v := settingIf_value h

theorem settingIf_named_and {b held lo hi v : Nat} {p : Prop} [Decidable p] (h : lo ≤ hi) :
    (settingIf (bits.testBit b && decide p) held lo hi v).value = if p then namedValue bits b held lo hi v else held := by
  rw [settingIf_value h]
  by_cases hp : p <;> simp [hp, namedValue]

/-- The record that ADJUST_TOOL writes, but for the class references (R14). -/
theorem Tool.adjusted_record : (x.adjusted bits tag limit warn thr n l k low high depth).1 = { x with
    tag := if bits.testBit 0 then tag else x.tag
    limit := namedValue bits 1 x.limit 1 4000000 limit
    warnPercent := namedValue bits 2 x.warnPercent 50 99 warn
    threshold := namedValue bits 3 x.threshold 1 4095 thr
    persistence := namedValue bits 4 x.persistence 1 64 n
    learnCount := namedValue bits 5 x.learnCount 1 16 l
    shift := namedValue bits 6 x.shift 1 8 k
    lowBound := namedValue bits 7 x.lowBound 128 1023 low
    highBound := namedValue bits 8 x.highBound 1025 8191 high
    dressDepth := if x.kind = .wheel then namedValue bits 9 x.dressDepth 1 200 depth else x.dressDepth
    nominalDepth := if x.kind = .dresser then namedValue bits 9 x.nominalDepth 1 200 depth else x.nominalDepth
    refs := (x.adjusted bits tag limit warn thr n l k low high depth).1.refs } := by
  unfold Tool.adjusted
  simp only [settingIf_named, settingIf_named_and, Nat.reduceLeDiff]
  split <;> rfl

/-- A new learn count drops the unfinished learning runs (R15). -/
theorem Tool.adjusted_refs (c : Fin 4) : (x.adjusted bits tag limit warn thr n l k low high depth).1.refs[c] =
    if namedValue bits 5 x.learnCount 1 16 l = x.learnCount ∨ x.refs[c].state = .learned then x.refs[c]
    else ⟨.unlearned, 0, 0, 0⟩ := by
  have value : (settingIf (bits.testBit 5) x.learnCount 1 16 l).value = namedValue bits 5 x.learnCount 1 16 l :=
    settingIf_named bits (by decide)
  rw [← value]
  unfold Tool.adjusted
  dsimp only
  by_cases hl : (settingIf (bits.testBit 5) x.learnCount 1 16 l).value = x.learnCount
  · rw [if_pos hl, if_pos (Or.inl hl)]
  · rw [if_neg hl]
    refine (perClass_get ..).trans ?_
    simp only [hl, false_or]
    rfl

end Adjust

/-- Two records with the same references, that agree but for them and the condition, are one when the life condition says so. -/
theorem Tool.eq_of_refs {y z : Tool} (h : z = { y with refs := z.refs, condition := z.condition })
    (hr : ∀ c : Fin 4, y.refs[c] = z.refs[c]) (hc : y.lifeCondition = z.lifeCondition → y.condition = z.condition) :
    y = z := by
  have life : y.lifeCondition = z.lifeCondition := by rw [h]; rfl
  have refs : y.refs = z.refs := Vector.ext fun i hi => hr ⟨i, hi⟩
  rw [h, ← refs, ← hc life]

namespace State

variable (s : State)

/-- An ADJUST_TOOL's event is one of eligibility when the tool was not eligible and is (R15, R81). -/
theorem reportIfBecame_eq {n : Nat} {y : Tool} (hy : s.tool? n = some y) (b : Bool) :
    s.reportIfBecame n b = s.eventIf (!b && s.eligibleNow y) y.group := by
  unfold reportIfBecame reportIfEligible eventIf
  rw [hy]
  cases b <;> simp

theorem eligibleNow_of_groups {s t : State} (h : t.groups = s.groups) (x : Tool) : t.eligibleNow x = s.eligibleNow x := by
  unfold eligibleNow groupOf group?
  rw [h]

/-- A tool that is not in STORE is not eligible (R126). -/
theorem eligibleNow_of_placed {x : Tool} (h : x.placement ≠ .store) : s.eligibleNow x = false := by
  rw [← Bool.not_eq_true, eligibleNow_iff]
  rintro ⟨_, g, _, he⟩
  exact h ((Tool.eligible_iff ..).1 he).1

end State

/-- What a recompute leaves is said of the positions, the groups, the queues and the clock alone. -/
theorem recomputeLeaves_congr {s t u v : State} {n : Nat} {old : Condition} {y : Tool} (h : recomputeLeaves s t n old y)
    (hs : u.positions = s.positions ∧ u.groups = s.groups ∧ u.notices = s.notices ∧ u.clock = s.clock)
    (ht : v.positions = t.positions ∧ v.groups = t.groups ∧ v.notices = t.notices) : recomputeLeaves u v n old y := by
  obtain ⟨sp, sg, sn, sc⟩ := hs
  obtain ⟨tp, tg, tn⟩ := ht
  have pos : ∀ p, u.position p = s.position p := fun p => by simp [State.position, sp]
  have sget : ∀ m, u.group? m = s.group? m := fun m => by simp [State.group?, sg]
  have tget : ∀ m, v.group? m = t.group? m := fun m => by simp [State.group?, tg]
  unfold recomputeLeaves at h ⊢
  simpa only [pos, sget, tget, sp, sg, sn, sc, tp, tg, tn] using h

/-- A request that writes the record `u` of tool `n` and recomputes its condition. -/
def State.rewriteTool (s : State) (n : Nat) (u : Tool) : State := (s.writeTool n u).recompute n

theorem State.rewriteTool_leaves (s : State) {n : Nat} (h0 : n ≠ 0) (u : Tool) :
    onlyChanges [.journal, .tools, .groups, .positions, .notices] s (s.rewriteTool n u) ∧
      toolBecomes n (some u.recomputed) s (s.rewriteTool n u) ∧
      recomputeLeaves s (s.rewriteTool n u) n u.condition u.recomputed := by
  have get : (s.writeTool n u).tool? n = some u := by simp [State.writeTool]
  obtain ⟨frame, record, leaves⟩ := State.recompute_leaves h0 get
  refine ⟨onlyChanges_trans (onlyChanges_mono (s.writeTool_frame n u) (by decide)) (onlyChanges_mono frame (by decide)),
    fun m => ?_, recomputeLeaves_congr leaves ⟨rfl, rfl, rfl, rfl⟩ ⟨rfl, rfl, rfl⟩⟩
  refine (record m).trans ?_
  split
  · rfl
  · next hm => exact (State.setTool_toolGet ..).trans (if_neg hm)

/-- Settles O25: the written record is the one that the statement describes, and an ordinary recompute of it follows. -/
theorem adjustToolWritesNamedFields : Obligations.AdjustToolWritesNamedFields := by
  intro s tool bits tag limit warn thr n l k low high depth hp
  refine ⟨_, congrArg Host.Outcome.next (State.request_of_powered hp _), ?_⟩
  split
  · next bad =>
    refine refused_of (if_pos ?_)
    by_cases ht : tool = 0 ∨ 128 < tool
    · exact .inl (isToolNumber_of_bad ht)
    · exact .inr (by tauto)
  · next good =>
    have number : ¬ (isToolNumber tool = false ∨ 1024 ≤ bits) := by
      rw [isToolNumber_of_good (by tauto)]; simp; omega
    have tool0 : tool ≠ 0 := by tauto
    split
    · next hn =>
      refine refused_of ((if_neg number).trans ?_)
      rw [State.atWork_toolGet, hn]
    · next x hx =>
      split
      · next hres =>
        refine refused_of ((if_neg number).trans ?_)
        rw [State.atWork_toolGet, hx]
        exact if_pos (x.isReserved_iff.2 hres)
      · next hres =>
        have free : ¬ x.isReserved = true := mt x.isReserved_iff.1 hres
        split
        · next hz =>
          have work : s.atWork.adjustTool tool bits tag limit warn thr n l k low high depth = s.atWork.accept .ok := by
            refine (if_neg number).trans ?_
            rw [State.atWork_toolGet, hx]
            exact (if_neg free).trans (if_pos hz)
          rw [serve_taken work rfl]
          exact takenOk_of (parts := []) fun y _ => by cases y <;> rfl
        · next hz =>
          intro named y hnamed hy hrefs hcond
          obtain rfl : named = namedValue bits := by
            funext b held lo hi v; exact hnamed b held lo hi v
          generalize hu : (x.adjusted bits tag limit warn thr n l k low high depth).1 = u
          have same : y = u.recomputed := by
            refine Tool.eq_of_refs ?_ (fun c => ?_) fun life => ?_
            · have written : ∀ r c, { u with refs := r, condition := c } = { y with refs := r, condition := c } := by
                intro r c; rw [hy, ← hu, Tool.adjusted_record]
              exact written u.refs u.ordinaryCondition
            · have count : y.learnCount = namedValue bits 5 x.learnCount 1 16 l := by rw [hy]
              rw [hrefs c, count, ← hu]
              exact (Tool.adjusted_refs ..).symm
            · have old : u.condition = x.condition := by rw [← hu, Tool.adjusted_record]
              have now : u.recomputed.lifeCondition = u.lifeCondition := rfl
              rw [hcond, Tool.recomputed_condition, Tool.ordinaryCondition_eq, old, life, now] <;> rfl
          have seat : y.placement = x.placement ∧ y.group = x.group := by rw [hy]; exact ⟨rfl, rfl⟩
          have condition : u.condition = x.condition := by
            rw [← hu, Tool.adjusted_record]
          obtain ⟨frame, record, leaves⟩ := s.atWork.rewriteTool_leaves tool0 u
          rw [condition, ← same] at leaves
          rw [← same] at record
          have work : s.atWork.adjustTool tool bits tag limit warn thr n l k low high depth =
              ((s.atWork.rewriteTool tool u).eventIf (!s.eligibleNow x && (s.atWork.rewriteTool tool u).eligibleNow y)
                y.group).accept (taken (x.adjusted bits tag limit warn thr n l k low high depth).2) := by
            rw [← State.reportIfBecame_eq _ ((record tool).trans (if_pos rfl))]
            refine (if_neg number).trans ?_
            rw [State.atWork_toolGet, hx]
            rw [← hu]
            exact (if_neg free).trans (if_neg hz)
          have link : (s.atWork.rewriteTool tool u).link = s.link.executing := frame .link (by decide)
          rw [State.serve_taken_event work link]
          generalize hport : s.link.sending ⟨s.summaryByte,
            taken (x.adjusted bits tag limit warn thr n l k low high depth).2, []⟩ = port
          have leaves := recomputeLeaves_congr (u := s) (v := (s.atWork.rewriteTool tool u).withLink port) leaves
            ⟨rfl, rfl, rfl, rfl⟩ ⟨rfl, rfl, rfl⟩
          obtain ⟨-, notices, mounted, stored⟩ := leaves
          rw [seat.1] at mounted stored notices
          rw [seat.2] at mounted
          refine ⟨(s.atWork.rewriteTool tool u).withLink port, onlyChanges_withLink frame, ?_, fun m => ?_, ?_, fun hs => ?_,
            fun p hpos => ?_⟩
          · refine hport.symm.trans (congrArg (fun r => s.link.sending ⟨s.summaryByte, r, []⟩) ?_)
            simp only [taken, Tool.adjusted_clamped]
          · rw [State.withLink_toolGet, record, State.atWork_toolGet]
          · exact notices
          · obtain ⟨groups, positions⟩ := stored (by simp [hs])
            refine ⟨groups, positions, ?_⟩
            have before : (s.atWork.rewriteTool tool u).eligibleNow y = s.eligibleNow y := State.eligibleNow_of_groups groups y
            rw [before, seat.2]
            by_cases event : s.eligibleNow x = false ∧ s.eligibleNow y = true
            · rw [if_pos event, event.1, event.2]; rfl
            · have silent : (!s.eligibleNow x && s.eligibleNow y) = false := by
                rw [← Bool.not_eq_true, Bool.and_eq_true, Bool.not_eq_true']; exact event
              rw [if_neg event, silent]; rfl
          · have unchanged : (s.atWork.rewriteTool tool u).eligibleNow y = false :=
              State.eligibleNow_of_placed _ (by simp [seat.1, hpos])
            rw [unchanged, Bool.and_false]
            exact ⟨rfl, mounted p hpos⟩

end Sys2Proof.Machine
end

section
/-! What a power failure undoes, and the commits that the requests and a selection leave behind (R22). -/

namespace Sys2Proof.Machine

/-! ### The failure -/

namespace State

variable (s : State) (k : Nat)

/-- Every retained record after a power failure is what it held before the unfinished commits (R22). -/
theorem takePowerFail_reads {α : Type} (before : RetainedWrite → Option α) (read : State → α)
    (hread : ∀ (u : State) (w : RetainedWrite), tableWf u.tools = true → tableWf u.groups = true →
      read (u.putBack w) = (before w).getD (read u))
    (hlast : read (s.takePowerFail k) = read (s.undoCommits k s.journal)) (h : tablesOk s) :
    read (s.takePowerFail k) = heldBefore before s.journal k (read s) := by
  obtain ⟨tools, groups, journal⟩ := h
  rw [hlast, undoCommits_eq]
  refine foldl_putBack before read hread _ s tools groups fun w hw => ?_
  obtain ⟨c, hc, hw⟩ := List.mem_flatten.1 hw
  exact journal c (List.mem_of_mem_take hc) w hw

end State

/-! ### A selection's commits -/

/-- A selection that chooses a sister commits it with the group's cursor (R127). -/
theorem State.giveSister_journal (s : State) (p : Fin 12) (gno : Nat) (g : Group) (i : Nat) :
    (s.giveSister p gno g i).journal = [s.oldTool (g.memberAt i), s.oldGroup gno] :: s.journal := by
  simp [giveSister]

/-- An exhausted group's RUN_ON commits the tool, when it makes it OVERRUN (R129). -/
theorem State.exhausted_journal (s : State) (p : Fin 12) (n : Nat) (t : Tool) (g : Group) :
    (s.exhausted p n t g).journal =
      if t.condition = .spent ∧ g.action = .runOn ∧ t.used < t.overrunCeiling g.overrunPercent then
        [s.oldTool n] :: s.journal
      else s.journal := by
  rw [Moves.exhausted_eq]
  by_cases run : g.action = .runOn ∧ t.used < t.overrunCeiling g.overrunPercent
  · by_cases spent : t.condition = .spent
    · simp [run, spent, joinAs, rest]
    · by_cases overrun : t.condition = .overrun <;> simp [run, spent, overrun, joinAs, rest]
  · by_cases worn : t.condition = .spent ∨ t.condition = .overrun <;> simp [run, joinAs, rest]

/-! ### A request's commits -/

/-- A request that is answered OK or ADJUSTED leaves a journal of which `P` holds. -/
def Answer.leaves (a : Answer) (P : List Commit → Prop) : Prop :=
  a.result = .ok ∨ a.result = .adjusted → P a.state.journal

section

variable {s : State} {P : List Commit → Prop}

theorem leaves_refuse {r : ResultCode} (h : r ≠ .ok ∧ r ≠ .adjusted) : (s.refuse r).leaves P :=
  fun hr => (hr.elim h.1 h.2).elim

theorem leaves_accept {r : ResultCode} (h : P s.journal) : (s.accept r).leaves P := fun _ => h

/-- What a request's work leaves in the journal, the taken request leaves. -/
theorem Answer.leaves.served {work : State → Answer} (h : (work s.atWork).leaves P) {t : State} (hp : s.powered = true)
    (ha : answeredOk s t) (ht : Host.Outcome.next (s.request work) = (.next t : Host.Outcome State Fault Refusal)) :
    P t.journal := by
  rw [State.request_of_powered hp, State.serve_eq] at ht
  cases ht
  refine h (ha.imp (fun hr => ?_) fun hr => ?_) <;>
  · have reply := congrArg LinkPort.reply hr
    simpa [LinkPort.sending] using congrArg (Option.map Reply.result) reply

theorem leaves_atPosition {n : Nat} {work : Fin 12 → Answer}
    (h : ∀ p : Fin 12, positionArg n = some p → (work p).leaves P) :
    (s.atPosition n work).leaves P := by
  unfold State.atPosition
  split
  · exact leaves_refuse (by decide)
  · next p hp =>
    split
    · exact h p hp
    · exact leaves_refuse (by decide)

end

/-- The oldest commit of an event stays the oldest through the work that follows. -/
theorem Worked.getLast? {s t : State} (h : Worked s t) {c : Commit} (hc : s.journal.getLast? = some c) :
    t.journal.getLast? = some c := by
  obtain ⟨cs, hj⟩ := h.journal
  rw [hj, List.getLast?_append, hc]
  rfl

namespace State

variable (s : State)

theorem commit_getLast? (h : s.journal = []) (ws : List RetainedWrite) : (s.commit ws).journal.getLast? = some ws := by
  rw [commit_eq, withJournal_journal, h]
  rfl

@[simp] theorem clearAir_journal (p : Fin 12) : (s.clearAir p).journal = s.journal := by
  unfold clearAir
  split <;> rfl

theorem clearTables_leaves (h : s.journal = []) : (s.clearTables).leaves (· = [[.tables s.tools s.groups]]) := by
  unfold clearTables
  split
  · exact leaves_refuse (by decide)
  · exact leaves_accept (congrArg ([RetainedWrite.tables s.tools s.groups] :: ·) h)

theorem movePresence_journal (st : Fin 6) (was is : Bool) : (s.movePresence st was is).journal = s.journal := by
  cases was <;> cases is <;> rfl

theorem setStation_leaves (h : s.journal = []) (st : Fin 6) (present eMin blank air stale action timeout : Nat) :
    (s.setStation st.val present eMin blank air stale action timeout).leaves (· = [[.config st (s.config st)]]) := by
  unfold setStation
  rw [stationArg_val]
  split
  · next st' p a hst hp ha =>
    cases hst
    split
    · exact leaves_refuse (by decide)
    · refine leaves_accept ((movePresence_journal ..).trans ?_)
      exact congrArg ([RetainedWrite.config st (s.config st)] :: ·) h
  · exact leaves_refuse (by decide)

theorem deleteGroup_leaves (h : s.journal = []) {group : Nat} {g : Group} (hg : s.group? group = some g) :
    (s.deleteGroup group).leaves (· = [.group group (some g) :: g.chain.map fun n => .tool n (s.tool? n)]) := by
  unfold deleteGroup
  rw [hg]
  split
  · dsimp only
    split
    · exact leaves_refuse (by decide)
    · refine leaves_accept ?_
      rw [eraseGroup_journal, setGroupField_journal, commit_eq, withJournal_journal, h, oldGroup, hg]
      rfl
  · exact leaves_refuse (by decide)

/-- DEFINE_GROUP's own writes are one commit, with its service's commits after it (R123). -/
theorem writeGroup_getLast? (h : s.journal = []) (group : Nat) (g : Group) : (s.writeGroup group g).journal.getLast? =
    some (s.oldGroup group :: (s.droppedBy group g.chain ++ g.chain).map s.oldTool) := by
  have written : (s.regroup group g).journal.getLast? =
      some (s.oldGroup group :: (s.droppedBy group g.chain ++ g.chain).map s.oldTool) := by
    rw [regroup, setGroupField_journal, setGroupField_journal, setGroup_journal, commit_eq, withJournal_journal, h]
    rfl
  rw [Moves.writeGroup_eq]
  split
  · exact (Worked.eligibilityEvent ..).getLast? written
  · exact written

theorem refuseGroup_refuses {group : Nat} {kind : Kind} {chain : List Nat} {r : ResultCode}
    (h : s.refuseGroup group kind chain = some r) : r ≠ .ok ∧ r ≠ .adjusted := by
  unfold refuseGroup at h
  split_ifs at h
  · cases h; decide
  · cases h; decide
  · cases h; decide
  · split at h
    · cases h
    · split at h <;> cases h
      decide

/-- A carried chain that is taken is its first numbers. -/
theorem chainArg_take {len : Nat} {chain c : List Nat} (h : chainArg len chain = some c) : c = chain.take len := by
  unfold chainArg at h
  dsimp only at h
  split at h
  · exact (Option.some.inj h).symm
  · cases h

theorem defineGroup_leaves (h : s.journal = []) (group kind len : Nat) (chain : List Nat)
    (policy margin action percent b un ov cl : Nat) :
    (s.defineGroup group kind len chain policy margin action percent b un ov cl).leaves fun j => j.getLast? =
      some (s.oldGroup group :: (s.droppedBy group (chain.take len) ++ chain.take len).map s.oldTool) := by
  unfold defineGroup
  split
  · next k c p a r _ _ hc _ _ _ =>
    split
    · next refusal hr =>
      exact leaves_refuse (s.refuseGroup_refuses hr)
    · obtain rfl := chainArg_take hc
      exact leaves_accept (s.writeGroup_getLast? h group _)
  · exact leaves_refuse (by decide)

theorem exchange_getLast? (h : s.journal = []) (p : Fin 12) (u : Nat) : (s.exchange p u).journal.getLast? =
    some [s.oldTool (s.position p).active, s.oldTool (s.position p).sister, s.oldTool u] := by
  have written : (s.exchange p u).journal =
      [s.oldTool (s.position p).active, s.oldTool (s.position p).sister, s.oldTool u] :: s.journal := by
    simp [exchange, reportToolChange]
  rw [written, h]
  rfl

theorem confirmSwap_leaves (h : s.journal = []) (p : Fin 12) (tool : Nat) :
    (s.confirmSwap p.val tool).leaves fun j => j.getLast? =
      some [s.oldTool (s.position p).active, s.oldTool (s.position p).sister, s.oldTool tool] := by
  unfold confirmSwap
  split
  · refine leaves_atPosition fun q hq => ?_
    obtain rfl : p = q := by simpa using hq
    dsimp only
    split_ifs with late ordered sister substitute
    · exact leaves_refuse (by decide)
    · exact leaves_refuse (by decide)
    · refine leaves_accept ?_
      have swapped := s.exchange_getLast? h p (s.position p).sister
      rw [sister]
      exact ((Worked.ite (Worked.selection _ p) (Worked.refl _)).trans (Worked.reportIfEligible ..)).getLast? swapped
    · refine leaves_accept ?_
      exact ((Worked.reportIfEligible ..).trans (Worked.reportIfEligible ..)).getLast? (s.exchange_getLast? h p tool)
    · exact leaves_refuse (by decide)
  · exact leaves_refuse (by decide)

/-! The tool requests and MOUNT commit their one tool. -/

theorem deleteTool_leaves (h : s.journal = []) (tool : Nat) :
    (s.deleteTool tool).leaves fun j => j.getLast? = some [s.oldTool tool] := by
  unfold deleteTool
  split
  · split
    · exact leaves_refuse (by decide)
    · split_ifs
      · exact leaves_refuse (by decide)
      · exact leaves_refuse (by decide)
      · exact leaves_accept (s.commit_getLast? h _)
  · exact leaves_refuse (by decide)

theorem renewTool_leaves (h : s.journal = []) (tool stock : Nat) :
    (s.renewTool tool stock).leaves fun j => j.getLast? = some [s.oldTool tool] := by
  unfold renewTool
  split
  · split
    · exact leaves_refuse (by decide)
    · next t ht =>
      split
      · exact leaves_refuse (by decide)
      · refine leaves_accept ((Worked.ite (Worked.refl _) (Worked.eligibilityEvent ..)).getLast? ?_)
        exact s.commit_getLast? h _
  · exact leaves_refuse (by decide)

theorem withdrawTool_leaves (h : s.journal = []) (tool : Nat) :
    (s.withdrawTool tool).leaves fun j => j.getLast? = some [s.oldTool tool] := by
  unfold withdrawTool
  split
  · split
    · exact leaves_refuse (by decide)
    · split_ifs
      · exact leaves_refuse (by decide)
      · exact leaves_accept (s.commit_getLast? h _)
  · exact leaves_refuse (by decide)

theorem reinstateTool_leaves (h : s.journal = []) (tool : Nat) :
    (s.reinstateTool tool).leaves fun j => j.getLast? = some [s.oldTool tool] := by
  unfold reinstateTool
  split
  · split
    · exact leaves_refuse (by decide)
    · split_ifs
      · exact leaves_refuse (by decide)
      · exact leaves_refuse (by decide)
      · exact leaves_accept ((Worked.reportIfEligible ..).getLast? (s.commit_getLast? h _))
  · exact leaves_refuse (by decide)

theorem clearReference_leaves (h : s.journal = []) (tool selector : Nat) :
    (s.clearReference tool selector).leaves fun j => j.getLast? = some [s.oldTool tool] := by
  unfold clearReference
  split
  · split
    · exact leaves_refuse (by decide)
    · exact leaves_accept (s.commit_getLast? h _)
  · exact leaves_refuse (by decide)

theorem refuseMount_refuses {p : Fin 12} {tool : Nat} {r : ResultCode} (h : s.refuseMount p tool = some r) :
    r ≠ .ok ∧ r ≠ .adjusted := by
  unfold refuseMount at h
  split at h
  · cases h; decide
  · split_ifs at h <;> cases h <;> decide

theorem mount_leaves (h : s.journal = []) (position tool : Nat) :
    (s.mount position tool).leaves fun j => j.getLast? = some [s.oldTool tool] := by
  unfold mount
  split
  · refine leaves_atPosition fun p _ => ?_
    split
    · next r hr => exact leaves_refuse (s.refuseMount_refuses hr)
    · refine leaves_accept ?_
      have written : (s.takeMount p tool).journal = [s.oldTool tool] :: s.journal := by
        simp [takeMount, reportToolChange]
      rw [written, h]
      rfl
  · exact leaves_refuse (by decide)

end State

end Sys2Proof.Machine
end

section
/-! What the blocks leave of the tool records, of the other parts and of a monitor's operation, while they take a sample. -/

namespace Sys2Proof.Machine

/-! ### Readings of the tool records that stand -/

/-- A reading of the tool records, which tools are defined with it, is the same in both states. -/
def KeepsTools {α : Type} (π : Tool → α) (s t : State) : Prop := ∀ n, (t.tool? n).map π = (s.tool? n).map π

/-- The reading shows neither the placement nor the condition, which the swap controller writes. -/
structure SwapBlind {α : Type} (π : Tool → α) : Prop where
  placement : ∀ t x, π { t with placement := x } = π t
  condition : ∀ t x, π { t with condition := x } = π t

/-- The reading does not show the tallies, which a detection writes. -/
def TallyBlind {α : Type} (π : Tool → α) : Prop := ∀ t x, π { t with tallies := x } = π t

namespace State

variable (s : State)

/-- The tally of a detection (R94). -/
def tally (d : Detection) : State := s.modifyTool d.tool fun t => { t with tallies := t.tallies.bump d.cls }

/-- What follows the tally of a detection: the repeat of the open incident, or the booked response (R94). -/
def answerDetection (d : Detection) : State :=
  if (s.incident d.station).isOpen then s.setIncident d.station ((s.incident d.station).repeated d.tool) else s.respond d

theorem takeDetection_eq (d : Detection) : s.takeDetection d = (s.tally d).answerDetection d := rfl

end State

namespace KeepsTools

section

variable {α : Type} {π : Tool → α}

theorem refl (s : State) : KeepsTools π s s := fun _ => rfl

theorem of_tools {s t : State} (h : t.tools = s.tools) : KeepsTools π s t := fun n => by rw [State.tool?, h, State.tool?]

theorem trans {s t u : State} (h : KeepsTools π s t) (k : KeepsTools π t u) : KeepsTools π s u :=
  fun n => (k n).trans (h n)

theorem ite {s t u : State} {c : Prop} [Decidable c] (h : KeepsTools π s t) (k : KeepsTools π s u) :
    KeepsTools π s (if c then t else u) := by
  split <;> assumption

/-- A record that stands has in the later state a record of the same reading. -/
theorem get {s t : State} (h : KeepsTools π s t) {n : Nat} {x : Tool} (hx : s.tool? n = some x) :
    ∃ y, t.tool? n = some y ∧ π y = π x := by
  have read := h n
  rw [hx] at read
  exact Option.map_eq_some_iff.1 read

variable (s : State)

theorem modifyTool (n : Nat) {f : Tool → Tool} (hf : ∀ t, π (f t) = π t) : KeepsTools π s (s.modifyTool n f) := by
  intro m
  rw [State.modifyTool_toolGet]
  split
  · next hm => rw [hm]; cases s.tool? n <;> simp [hf]
  · rfl

variable (hs : SwapBlind π)
include hs

theorem giveSister (p : Fin 12) (gno : Nat) (g : Group) (i : Nat) : KeepsTools π s (s.giveSister p gno g i) := by
  intro m
  rw [State.giveSister_toolGet]
  split
  · cases s.tool? m <;> simp [hs.placement]
  · rfl

theorem exhausted (p : Fin 12) (n : Nat) (t : Tool) (g : Group) : KeepsTools π s (s.exhausted p n t g) := by
  have worn : KeepsTools π s ((s.commit [s.oldTool n]).modifyTool n fun t => { t with condition := .overrun }) :=
    (of_tools rfl).trans (modifyTool (s.commit [s.oldTool n]) n fun t => hs.condition t _)
  rw [Moves.exhausted_eq]
  refine ite (KeepsTools.trans (t := if t.condition = .overrun then s else _) (ite (refl s) worn) ?_) ?_
  · exact of_tools (State.modifyGroup_tools ..)
  · exact of_tools (State.modifyGroup_tools ..)

theorem selection (p : Fin 12) : KeepsTools π s (s.selection p) := by
  rcases s.selection_cases p with ⟨_, h⟩ | ⟨t, _, ⟨_, h⟩ | ⟨g, _, ⟨i, _, h⟩ | ⟨_, h⟩⟩⟩ <;> rw [h]
  · exact refl s
  · exact of_tools rfl
  · exact giveSister s hs p _ g i
  · exact exhausted s hs p _ t g

theorem rescan (p : Fin 12) : KeepsTools π s (s.rescan p) := by
  rcases s.rescan_cases p with h | ⟨t, g, _, _, ⟨i, _, h⟩ | ⟨_, h⟩⟩ <;> rw [h]
  · exact refl s
  · exact giveSister s hs p _ g i
  · exact of_tools rfl

theorem partEndAt (p : Fin 12) : KeepsTools π s (s.partEndAt p) := by
  unfold State.partEndAt
  split
  · exact selection s hs p
  · exact rescan s hs p
  all_goals exact refl s

theorem partEnd (st : Fin 6) : KeepsTools π s (s.partEnd st) := (partEndAt s hs _).trans (partEndAt _ hs _)

theorem handOver (x : Placement) (old new : Condition) : KeepsTools π s (s.handOver x old new) := by
  unfold State.handOver
  split
  · next _ p =>
    rcases s.conditionReport_cases p old new with h | ⟨_, _, h⟩ | ⟨_, h⟩ | h <;> rw [h]
    · exact refl s
    · exact of_tools rfl
    · exact selection s hs p
    · exact of_tools (State.leaveWaiting_tools s p)
  · exact refl s
  · exact refl s

theorem breakTool (n : Nat) : KeepsTools π s (s.breakTool n) := by
  unfold State.breakTool
  split
  · exact refl s
  · next t ht =>
    refine ite (refl s) (KeepsTools.trans (fun m => ?_) (handOver _ hs t.placement t.condition .broken))
    rw [State.setTool_toolGet]
    split
    · next hm => rw [hm, ht, Option.map_some, Option.map_some, hs.condition]
    · rfl

theorem respond (d : Detection) : KeepsTools π s (s.respond d) := by
  unfold State.respond
  split
  · exact refl s
  · exact of_tools rfl
  · exact of_tools rfl
  · exact (of_tools rfl).trans (breakTool (s.openIncident d .condemn) hs d.tool)

theorem answerDetection (d : Detection) : KeepsTools π s (s.answerDetection d) := ite (of_tools rfl) (respond s hs d)

variable (ht : TallyBlind π)
include ht

theorem takeDetection (d : Detection) : KeepsTools π s (s.takeDetection d) :=
  (modifyTool s d.tool fun _ => ht _ _).trans (answerDetection (s.tally d) hs d)

theorem takeBurst (st : Fin 6) : KeepsTools π s (s.takeBurst st) := by
  rcases s.takeBurst_cases st with ⟨_, h⟩ | ⟨l, _, h⟩ <;> rw [h]
  · exact refl s
  · exact (of_tools rfl).trans (takeDetection _ hs ht _)

theorem burstStage (st : Fin 6) (l : Latched) (ae : Code) : KeepsTools π s (s.burstStage st l ae) :=
  (of_tools rfl).trans (takeBurst (s.modifyMonitor st fun m => m.burstCheck l ae) hs ht st)

omit hs ht

theorem takeChannelFault (st : Fin 6) (c : Channel) : KeepsTools π s (s.takeChannelFault st c) := by
  unfold State.takeChannelFault
  dsimp only
  split
  · exact refl s
  · split <;> exact of_tools rfl

theorem stuckStage (st : Fin 6) (power ae : Code) : KeepsTools π s (s.stuckStage st power ae) :=
  ((of_tools rfl).trans (takeChannelFault (s.modifyMonitor st fun m => m.stuckCheck .power power) st .power)).trans
    ((of_tools rfl).trans (takeChannelFault (State.modifyMonitor _ st fun m => m.stuckCheck .ae ae) st .ae))

include hs ht

theorem operationWork (st : Fin 6) (l : Latched) (power ae : Code) : KeepsTools π s (s.operationWork st l power ae) := by
  unfold State.operationWork
  dsimp only
  refine KeepsTools.trans ?_ (ite (of_tools rfl) (refl _))
  refine KeepsTools.trans ?_ (ite (stuckStage _ st power ae) (refl _))
  refine KeepsTools.trans ?_ (ite (of_tools rfl) (refl _))
  refine KeepsTools.trans ?_ (ite (burstStage _ hs ht st l ae) (refl _))
  exact of_tools rfl

theorem sampleWork (st : Fin 6) (power ae : Code) : KeepsTools π s (s.sampleWork st power ae) := by
  unfold State.sampleWork
  split
  · exact refl s
  · exact of_tools rfl
  · exact of_tools rfl
  · exact of_tools rfl
  all_goals
    split
    · exact operationWork s hs ht st _ power ae
    · exact of_tools rfl

end

end KeepsTools

/-! ### The parts that selections, hand-overs and detections write -/

/-- What the swap controller writes. -/
def swapParts : List Part := [.tools, .groups, .positions, .notices, .journal]

/-- What a detection writes. -/
def detectionParts : List Part := .captures :: .incidents :: swapParts

theorem Worked.swaps {s t : State} (h : Worked s t) (hm : t.monitors = s.monitors) (hc : t.captures = s.captures)
    (hi : t.incidents = s.incidents) (hf : t.flags = s.flags) : onlyChanges swapParts s t :=
  onlyChanges_of (.inr h.powered) (.inr h.clock) (.inl (by decide)) (.inl (by decide)) (.inr h.configs) (.inr hm) (.inr hc)
    (.inr hi) (.inr hf) (.inl (by decide)) (.inl (by decide)) (.inr h.link) (.inl (by decide)) (.inr h.pending)

namespace State

variable (s : State)

theorem onlyChanges_refl (l : List Part) : onlyChanges l s s := fun x _ => by cases x <;> rfl

theorem conditionReport_swaps (p : Fin 12) (old new : Condition) : onlyChanges swapParts s (s.conditionReport p old new) :=
  (Worked.conditionReport s p old new).swaps (conditionReport_monitors ..) (conditionReport_captures ..)
    (conditionReport_incidents ..) (conditionReport_flags ..)

theorem handOver_swaps (x : Placement) (old new : Condition) : onlyChanges swapParts s (s.handOver x old new) := by
  unfold handOver
  split
  · exact s.conditionReport_swaps _ old new
  · exact s.onlyChanges_refl _
  · exact s.onlyChanges_refl _

theorem setTool_frame (n : Nat) (x : Tool) : onlyChanges [.tools] s (s.setTool n x) := fun y hy => by
  cases y <;> first | rfl | simp at hy

theorem modifyTool_frame (n : Nat) (f : Tool → Tool) : onlyChanges [.tools] s (s.modifyTool n f) := by
  unfold modifyTool
  split
  · exact s.setTool_frame n _
  · exact s.onlyChanges_refl _

theorem breakTool_swaps (n : Nat) : onlyChanges swapParts s (s.breakTool n) := by
  unfold breakTool
  split
  · exact s.onlyChanges_refl _
  · split
    · exact s.onlyChanges_refl _
    · exact onlyChanges_trans (onlyChanges_mono (s.setTool_frame n _) (by decide)) (handOver_swaps _ _ _ _)

theorem openIncident_frame (d : Detection) (r : Response) :
    onlyChanges [.incidents, .notices, .captures] s (s.openIncident d r) := fun y hy => by
  cases y <;> first | rfl | simp at hy

theorem respond_frame (d : Detection) : onlyChanges detectionParts s (s.respond d) := by
  unfold respond
  split
  · exact s.onlyChanges_refl _
  · intro y hy; cases y <;> first | rfl | simp [detectionParts, swapParts] at hy
  · exact onlyChanges_mono (s.openIncident_frame d .suspend) (by decide)
  · exact onlyChanges_trans (onlyChanges_mono (s.openIncident_frame d .condemn) (by decide))
      (onlyChanges_mono (breakTool_swaps _ d.tool) (by decide))

theorem takeDetection_frame (d : Detection) : onlyChanges detectionParts s (s.takeDetection d) := by
  refine onlyChanges_trans (t := s.tally d) (onlyChanges_mono (s.modifyTool_frame d.tool _) (by decide)) ?_
  rw [takeDetection_eq, answerDetection]
  split
  · intro y hy; cases y <;> first | rfl | simp [detectionParts, swapParts] at hy
  · exact respond_frame _ d

end State

/-! ### The run of an operation -/

/-- The monitor of `st` is in the same state with the same AIR counter. -/
def SameRun (st : Fin 6) (s t : State) : Prop :=
  (t.monitor st).state = (s.monitor st).state ∧ (t.monitor st).air = (s.monitor st).air

namespace SameRun

variable {st : Fin 6}

theorem refl (s : State) : SameRun st s s := ⟨rfl, rfl⟩

theorem trans {s t u : State} (h : SameRun st s t) (k : SameRun st t u) : SameRun st s u :=
  ⟨k.1.trans h.1, k.2.trans h.2⟩

theorem ite {s t u : State} {c : Prop} [Decidable c] (h : SameRun st s t) (k : SameRun st s u) :
    SameRun st s (if c then t else u) := by
  split <;> assumption

theorem of_monitors {s t : State} (h : t.monitors = s.monitors) : SameRun st s t := by
  unfold SameRun State.monitor
  rw [h]
  exact ⟨rfl, rfl⟩

variable (s : State)

theorem modifyMonitor {f : Monitor → Monitor} (hs : ∀ m, (f m).state = m.state) (ha : ∀ m, (f m).air = m.air) :
    SameRun st s (s.modifyMonitor st f) := by
  unfold SameRun
  rw [State.modifyMonitor_monitor, if_pos rfl]
  exact ⟨hs _, ha _⟩

theorem setMonitor {m : Monitor} (hs : m.state = (s.monitor st).state) (ha : m.air = (s.monitor st).air) :
    SameRun st s (s.setMonitor st m) := by
  unfold SameRun
  rw [State.setMonitor_monitor, if_pos rfl]
  exact ⟨hs, ha⟩

theorem takeBurst : SameRun st s (s.takeBurst st) := by
  rcases s.takeBurst_cases st with ⟨_, h⟩ | ⟨l, _, h⟩ <;> rw [h]
  · exact refl s
  · exact (setMonitor s (m := { s.monitor st with burstDone := true, burstCounter := 0, runPeak := 0 }) rfl rfl).trans
      (of_monitors (State.takeDetection_frame _ _ .monitors (by decide)))

theorem burstStage (l : Latched) (ae : Code) : SameRun st s (s.burstStage st l ae) := by
  refine (modifyMonitor s (f := fun m => m.burstCheck l ae) (fun m => ?_) fun m => ?_).trans (takeBurst _) <;>
  · unfold Monitor.burstCheck; split_ifs <;> rfl

theorem takeChannelFault (c : Channel) : SameRun st s (s.takeChannelFault st c) := by
  have latched : SameRun st s (s.setMonitor st ((s.monitor st).latchFault c)) :=
    setMonitor s (by cases c <;> rfl) (by cases c <;> rfl)
  unfold State.takeChannelFault
  dsimp only
  split
  · exact refl s
  · split
    · exact latched.trans (of_monitors rfl)
    · exact latched.trans (of_monitors rfl)

theorem stuckStage (power ae : Code) : SameRun st s (s.stuckStage st power ae) := by
  have check : ∀ (u : State) (c : Channel) (x : Code), SameRun st u (u.modifyMonitor st fun m => m.stuckCheck c x) :=
    fun u c x => modifyMonitor u (fun m => by cases c <;> rfl) fun m => by cases c <;> rfl
  exact ((check s .power power).trans (takeChannelFault _ .power)).trans ((check _ .ae ae).trans (takeChannelFault _ .ae))

theorem operationWork (l : Latched) (power ae : Code) : SameRun st s (s.operationWork st l power ae) := by
  unfold State.operationWork
  dsimp only
  refine SameRun.trans ?_ (ite (modifyMonitor _ (fun m => ?_) fun m => ?_) (refl _))
  · refine SameRun.trans ?_ (ite (stuckStage _ power ae) (refl _))
    refine SameRun.trans ?_ (ite (modifyMonitor _ (fun m => ?_) fun m => ?_) (refl _))
    · refine SameRun.trans ?_ (ite (burstStage ..) (refl _))
      exact (of_monitors rfl).trans (modifyMonitor (s.captureWrite st (power, ae)) (fun _ => rfl) fun _ => rfl)
    all_goals unfold Monitor.addEnergy; split <;> rfl
  all_goals unfold Monitor.markFault; split <;> rfl

theorem sampleWork (power ae : Code) : SameRun st s (s.sampleWork st power ae) := by
  unfold State.sampleWork
  split
  · exact refl s
  · exact of_monitors rfl
  · exact of_monitors rfl
  · exact of_monitors rfl
  all_goals
    split
    · exact operationWork ..
    · exact of_monitors rfl

end SameRun

end Sys2Proof.Machine
end

section
/-! A sample at which an operation ends: the filter, the end, the part end and the rises, in the order of R27. -/

namespace Sys2Proof.Machine

/-! ### The edges of a primed filter -/

theorem filterLine_fall (f d r : Bool) : (f && !filterLine f d r) = (f && d && !r) := by
  cases f <;> cases d <;> cases r <;> rfl

theorem filterLine_rise (f d r : Bool) : (!f && filterLine f d r) = (!f && d && r) := by
  cases f <;> cases d <;> cases r <;> rfl

/-- The edges of a sample, by the second sample in a row that differs (R25, R27). -/
theorem Monitor.edges_of_primed {m : Monitor} (h : m.primed = true) (raw : Lines) : m.edges raw =
    { passFall := m.filtered.pass && m.differing.pass && !raw.pass
      dressFall := m.filtered.dress && m.differing.dress && !raw.dress
      partRise := !m.filtered.partEnd && m.differing.partEnd && raw.partEnd
      passRise := !m.filtered.pass && m.differing.pass && raw.pass
      dressRise := !m.filtered.dress && m.differing.dress && raw.dress } := by
  unfold edges
  rw [if_pos h]
  simp only [filteredNext, filterLine_fall, filterLine_rise]

theorem Monitor.filterStep_of_primed {m : Monitor} (h : m.primed = true) (raw : Lines) :
    m.filterStep raw = { m with filtered := m.filteredNext raw, differing := m.differingNext raw } := if_pos h

@[simp] theorem Monitor.filterStep_state (m : Monitor) (raw : Lines) : (m.filterStep raw).state = m.state := by
  unfold filterStep; split <;> rfl

@[simp] theorem Monitor.filterStep_op (m : Monitor) (raw : Lines) : (m.filterStep raw).op = m.op := by
  unfold filterStep; split <;> rfl

/-! ### What the end of an operation leaves of its monitor -/

namespace State

variable (s : State)

theorem crossingNotice_frame (n : Nat) (old : Condition) (t : Tool) :
    onlyChanges [.notices] s (s.crossingNotice n old t) := by
  unfold crossingNotice
  split_ifs <;>
  · intro y hy; cases y <;> first | rfl | simp at hy

theorem recompute_swaps (n : Nat) : onlyChanges swapParts s (s.recompute n) := by
  rcases s.recompute_cases n with h | ⟨t, _, _, h⟩ <;> rw [h]
  · exact s.onlyChanges_refl _
  · refine onlyChanges_trans (onlyChanges_mono (s.setTool_frame n t.recomputed) (by decide))
      (onlyChanges_trans (onlyChanges_mono (crossingNotice_frame _ n t.condition t.recomputed) (by decide)) ?_)
    exact handOver_swaps _ _ _ _

theorem share_swaps (n : Nat) (f : Tool → Tool) :
    onlyChanges swapParts s (((s.commit [s.oldTool n]).modifyTool n f).recompute n) := by
  have committed : onlyChanges [.journal] s (s.commit [s.oldTool n]) := fun y hy => by
    cases y <;> first | rfl | simp at hy
  exact onlyChanges_trans (onlyChanges_trans (onlyChanges_mono committed (by decide))
    (onlyChanges_mono (modifyTool_frame _ n f) (by decide))) (recompute_swaps _ n)

/-- A dress end writes what the swap controller writes. -/
theorem dressEnd_swaps (l : Latched) : onlyChanges swapParts s (s.dressEnd l) := by
  unfold dressEnd
  refine onlyChanges_trans (t := if l.wheel ≠ 0 ∧ l.wheelVoid = false then s.wheelShare l.wheel (l.depth.getD 0) else s) ?_
    (share_swaps _ l.dresser _)
  split
  · exact share_swaps s l.wheel _
  · exact s.onlyChanges_refl _

theorem charge_swaps (n w : Nat) : onlyChanges swapParts s (s.charge n w) :=
  onlyChanges_trans (onlyChanges_mono (s.modifyTool_frame n _) (by decide)) (recompute_swaps _ n)

theorem chargePass_swaps (n : Nat) (w : Option Nat) : onlyChanges swapParts s (s.chargePass n w) := by
  unfold chargePass
  split
  · exact charge_swaps s n _
  · exact s.onlyChanges_refl _

theorem raiseAtPassEnd_frame (st : Fin 6) (e : PassEnd) (found : Option (DetClass × Nat)) :
    onlyChanges detectionParts s (s.raiseAtPassEnd st e found) := by
  unfold raiseAtPassEnd
  split
  · exact takeDetection_frame s _
  · exact s.onlyChanges_refl _

theorem learnStep_frame (st : Fin 6) (e : PassEnd) (t : Tool) : onlyChanges [.tools, .notices] s (s.learnStep st e t) := by
  unfold learnStep
  dsimp only
  split <;>
  · intro y hy; cases y <;> first | rfl | simp at hy

theorem moveReference_frame (st : Fin 6) (e : PassEnd) (t : Tool) :
    onlyChanges [.tools, .notices] s (s.moveReference st e t) := by
  unfold moveReference
  split
  · exact s.onlyChanges_refl _
  · split
    · exact s.learnStep_frame st e t
    · exact onlyChanges_mono (s.setTool_frame e.wheel _) (by decide)
    all_goals exact s.onlyChanges_refl _

/-- A pass end up to its detection: the commit, the reference step and the AIR counter (R49, R57, R62, R64). -/
def judged (st : Fin 6) (e : PassEnd) (t : Tool) : State :=
  ((s.commit [s.oldTool e.wheel]).moveReference st e t).stepAir st (e.outcome t)

theorem passEnd_eq {s : State} {e : PassEnd} {t : Tool} (h : s.tool? e.wheel = some t) (st : Fin 6) : s.passEnd st e =
    ((s.judged st e t).raiseAtPassEnd st e (passDetection (e.outcome t) (e.ratio t) (s.monitor st).air
      (s.config st).airLimit)).chargePass e.wheel (passWeight (e.outcome t) (e.ratio t)) := by
  unfold passEnd
  rw [h]
  rfl

theorem judged_frame (st : Fin 6) (e : PassEnd) (t : Tool) :
    onlyChanges [.tools, .monitors, .notices, .journal] s (s.judged st e t) := by
  have committed : onlyChanges [.journal] s (s.commit [s.oldTool e.wheel]) := fun y hy => by
    cases y <;> first | rfl | simp at hy
  refine onlyChanges_trans (onlyChanges_mono committed (by decide)) (onlyChanges_trans
    (onlyChanges_mono (moveReference_frame _ st e t) (by decide)) fun y hy => ?_)
  cases y <;> first | rfl | simp at hy

theorem judged_monitor (st : Fin 6) (e : PassEnd) (t : Tool) : (s.judged st e t).monitor st =
    { s.monitor st with
      air := if e.outcome t = .air ∧ (s.monitor st).air + 1 < (s.config st).airLimit then (s.monitor st).air + 1 else 0 } := by
  have moved := (s.commit [s.oldTool e.wheel]).moveReference_frame st e t
  have monitor : ((s.commit [s.oldTool e.wheel]).moveReference st e t).monitor st = s.monitor st :=
    congrArg (·[st]) (moved .monitors (by decide))
  have config : ((s.commit [s.oldTool e.wheel]).moveReference st e t).config st = s.config st :=
    congrArg (·[st]) (moved .configs (by decide))
  rw [judged, stepAir, modifyMonitor_monitor, if_pos rfl, monitor, config]

/-- A pass end changes of the monitors the AIR counter alone (R64). -/
theorem passEnd_monitor (st : Fin 6) (e : PassEnd) :
    ∃ a, (s.passEnd st e).monitor st = { s.monitor st with air := a } := by
  cases h : s.tool? e.wheel with
  | none => exact ⟨(s.monitor st).air, by unfold passEnd; rw [h]⟩
  | some t =>
    rw [passEnd_eq h]
    refine ⟨_, Eq.trans ?_ (s.judged_monitor st e t)⟩
    exact congrArg (·[st]) ((chargePass_swaps _ _ _ .monitors (by decide)).trans
      (raiseAtPassEnd_frame _ st e _ .monitors (by decide)))

theorem endProcessing_monitor (st : Fin 6) : ∃ a, (s.endProcessing st).monitor st = { s.monitor st with air := a } := by
  unfold endProcessing
  dsimp only
  split
  · exact ⟨_, rfl⟩
  · split
    · split
      · exact s.passEnd_monitor st _
      · exact ⟨(s.monitor st).air, congrArg (·[st]) (s.dressEnd_swaps _ .monitors (by decide))⟩
    · exact ⟨_, rfl⟩

theorem finish_monitor (st : Fin 6) (x : MonitorState) :
    ∃ a, (s.finish st x).monitor st = { s.monitor st with state := x, air := a } := by
  obtain ⟨a, ha⟩ := (s.monitorTo st x).endProcessing_monitor st
  refine ⟨a, ha.trans ?_⟩
  rw [monitorTo, modifyMonitor_monitor, if_pos rfl]

/-- The state of a sample at which an operation ends, before the rises: the filter's step, the end of the operation at the
fall or else at the part end, and the part end itself (R27). -/
def ended (st : Fin 6) (raw : Lines) (fall part : Bool) : State :=
  if part then ((s.modifyMonitor st fun m => m.filterStep raw).finish st (if fall then .idle else .settling)).partEnd st
  else (s.modifyMonitor st fun m => m.filterStep raw).finish st (if fall then .idle else .settling)

theorem ended_monitor (st : Fin 6) (raw : Lines) (fall part : Bool) : ∃ a, (s.ended st raw fall part).monitor st =
    { (s.monitor st).filterStep raw with state := if fall then .idle else .settling, air := a } := by
  obtain ⟨a, ha⟩ := (s.modifyMonitor st fun m => m.filterStep raw).finish_monitor st (if fall then .idle else .settling)
  rw [modifyMonitor_monitor, if_pos rfl] at ha
  refine ⟨a, Eq.trans ?_ ha⟩
  unfold ended
  split
  · exact partEnd_monitor ..
  · rfl

variable {s}

/-- A sample at which the operation in progress ends: after its end come the rises and the work of the sample (R27). -/
theorem takeSample_ended {st : Fin 6} {power ae : Code} {raw : Lines} {fall part : Bool} {e : Edges}
    (he : (s.monitor st).edges raw = e) (hpart : e.partRise = part)
    (hop : (s.monitor st).state = .pass ∧ e.passFall = fall ∨ (s.monitor st).state = .dress ∧ e.dressFall = fall)
    (hend : (fall || part) = true)
    (high : fall = false → ((s.monitor st).filterStep raw).filtered.pass = true ∨
      ((s.monitor st).filterStep raw).filtered.dress = true) :
    s.takeSample st power ae raw = ((s.ended st raw fall part).takeRises st e).sampleWork st power ae := by
  have on : (s.monitor st).state ≠ .off := by rcases hop with h | h <;> rw [h.1] <;> decide
  obtain ⟨a, monitor⟩ := s.ended_monitor st raw fall part
  have rest : (s.ended st raw fall part).bothLowTest st = s.ended st raw fall part := by
    unfold bothLowTest
    dsimp only
    rw [monitor, if_neg]
    rintro ⟨hst, hp, hd⟩
    cases fall
    · rcases high rfl with h | h
      · exact absurd (h.symm.trans hp) (by decide)
      · exact absurd (h.symm.trans hd) (by decide)
    · simp at hst
  have ends : ((s.modifyMonitor st fun m => m.filterStep raw).takeFalls st e).takePartEnd st e = s.ended st raw fall part := by
    have state : ((s.modifyMonitor st fun m => m.filterStep raw).monitor st).state = (s.monitor st).state := by simp
    obtain ⟨b, idle⟩ := (s.modifyMonitor st fun m => m.filterStep raw).finish_monitor st .idle
    have falls : (s.modifyMonitor st fun m => m.filterStep raw).takeFalls st e =
        if fall then (s.modifyMonitor st fun m => m.filterStep raw).finish st .idle
        else s.modifyMonitor st fun m => m.filterStep raw := by
      unfold takeFalls
      rw [state]
      rcases hop with ⟨h, hf⟩ | ⟨h, hf⟩ <;> rw [h, hf]
    rw [falls]
    unfold takePartEnd ended
    rw [hpart]
    cases fall
    · obtain rfl : part = true := by simpa using hend
      rw [if_pos rfl, if_pos rfl, if_neg Bool.false_ne_true, state]
      rcases hop with ⟨h, _⟩ | ⟨h, _⟩ <;> rw [h] <;> rfl
    · rw [if_pos rfl, if_pos rfl, idle]
  unfold takeSample
  rw [if_neg on]
  dsimp only
  rw [he, ends, rest]

end State

end Sys2Proof.Machine
end

section
/-! The end of a dress at a sample: the two shares, each one commit with its recompute (R75, R77, R78); and with the
commits of a dress end, what a power failure undoes (R22). -/

namespace Sys2Proof.Machine

namespace State

variable (s : State)

/-! ### After the end of an operation -/

theorem takeRises_settling {st : Fin 6} (h : (s.monitor st).state = .settling) (e : Edges) : s.takeRises st e = s := by
  unfold takeRises
  rw [h]

theorem takeRises_none {st : Fin 6} {e : Edges} (h : (s.monitor st).state = .idle) (hp : e.passRise = false)
    (hd : e.dressRise = false) : s.takeRises st e = s := by
  unfold takeRises
  rw [h, hp, hd]

theorem takeRises_pass {st : Fin 6} {e : Edges} (h : (s.monitor st).state = .idle) (hp : e.passRise = true)
    (hd : e.dressRise = false) : s.takeRises st e = s.startPass st := by
  unfold takeRises
  rw [h, hp, hd]

theorem takeRises_dress {st : Fin 6} {e : Edges} (h : (s.monitor st).state = .idle) (hp : e.passRise = false)
    (hd : e.dressRise = true) : s.takeRises st e = s.startDress st := by
  unfold takeRises
  rw [h, hp, hd]

theorem sampleWork_idle {st : Fin 6} (h : (s.monitor st).state = .idle ∨ (s.monitor st).state = .settling)
    (power ae : Code) : s.sampleWork st power ae = s.captureWrite st (power, ae) := by
  unfold sampleWork
  rcases h with h | h <;> rw [h]

/-- The state in which the operation's end is processed: the filter has taken its step, and the monitor has left PASS or
DRESS. -/
def atEnd (st : Fin 6) (raw : Lines) (fall : Bool) : State :=
  (s.modifyMonitor st fun m => m.filterStep raw).monitorTo st (if fall then .idle else .settling)

theorem ended_eq (st : Fin 6) (raw : Lines) (fall part : Bool) : s.ended st raw fall part =
    if part then ((s.atEnd st raw fall).endProcessing st).partEnd st else (s.atEnd st raw fall).endProcessing st := rfl

theorem atEnd_frame (st : Fin 6) (raw : Lines) (fall : Bool) : onlyChanges [.monitors] s (s.atEnd st raw fall) := fun y hy => by
  cases y <;> first | rfl | simp at hy

theorem atEnd_monitor (st : Fin 6) (raw : Lines) (fall : Bool) : (s.atEnd st raw fall).monitor st =
    { (s.monitor st).filterStep raw with state := if fall then .idle else .settling } := by
  simp only [atEnd, monitorTo, modifyMonitor_monitor, if_pos]

variable {s}

theorem endProcessing_pass {st : Fin 6} {l : Latched} (ho : (s.monitor st).op = some l) (hk : l.kind = .pass)
    (hw : l.wheel ≠ 0) (hv : l.void = false) : s.endProcessing st = s.passEnd st ((s.monitor st).passEndOf l) := by
  unfold endProcessing
  dsimp only
  rw [ho]
  dsimp only
  rw [if_pos ⟨by simp [Latched.live, hk, hw], hv⟩, hk]

theorem endProcessing_dress {st : Fin 6} {l : Latched} (ho : (s.monitor st).op = some l) (hk : l.kind = .dress)
    (hd : l.dresser ≠ 0) (hv : l.void = false) : s.endProcessing st = s.dressEnd l := by
  unfold endProcessing
  dsimp only
  rw [ho]
  dsimp only
  rw [if_pos ⟨by simp [Latched.live, hk, hd], hv⟩, hk]

theorem endProcessing_idle {st : Fin 6} {l : Latched} (ho : (s.monitor st).op = some l)
    (h : ¬ (l.live = true ∧ l.void = false)) : s.endProcessing st = s := by
  unfold endProcessing
  dsimp only
  rw [ho]
  exact if_neg h

/-- A sample at which an operation ends and none starts (R27). -/
theorem takeSample_quiet {st : Fin 6} {power ae : Code} {raw : Lines} {fall part : Bool} {e : Edges}
    (he : (s.monitor st).edges raw = e) (hpart : e.partRise = part)
    (hop : (s.monitor st).state = .pass ∧ e.passFall = fall ∨ (s.monitor st).state = .dress ∧ e.dressFall = fall)
    (hend : (fall || part) = true)
    (high : fall = false → ((s.monitor st).filterStep raw).filtered.pass = true ∨
      ((s.monitor st).filterStep raw).filtered.dress = true)
    (hrise : fall = true → e.passRise = false ∧ e.dressRise = false) :
    s.takeSample st power ae raw = (s.ended st raw fall part).captureWrite st (power, ae) := by
  obtain ⟨a, monitor⟩ := s.ended_monitor st raw fall part
  have rises : (s.ended st raw fall part).takeRises st e = s.ended st raw fall part := by
    cases fall
    · exact takeRises_settling _ (by rw [monitor]; rfl) e
    · obtain ⟨hp, hd⟩ := hrise rfl
      exact takeRises_none _ (by rw [monitor]; rfl) hp hd
  rw [takeSample_ended he hpart hop hend high, rises]
  refine sampleWork_idle _ ?_ power ae
  rw [monitor]
  cases fall
  · exact .inr rfl
  · exact .inl rfl

/-! ### The two shares -/

end State

/-- The wheel's record after its share of a dress (R75). -/
def Tool.dressed (w : Tool) (depth : Nat) : Tool :=
  { w with stock := w.stock - depth, dressCount := satAdd32 w.dressCount 1 }

/-- The dresser's record after its share of a dress (R77). -/
def Tool.stroked (x : Tool) (weight : Nat) : Tool :=
  { x with used := satAdd32 x.used weight, dressCount := satAdd32 x.dressCount 1 }

/-- The stroke weight that a dress gives its dresser (R77). -/
def Latched.stroke (l : Latched) : Nat := strokeWeight (if l.wheel = 0 then none else l.depth) (l.nominal.getD 0)

namespace State

variable {s : State}

theorem modifyTool_of_some {n : Nat} {x : Tool} (h : s.tool? n = some x) (f : Tool → Tool) :
    s.modifyTool n f = s.setTool n (f x) := by
  unfold modifyTool
  rw [h]

theorem wheelShare_eq {n : Nat} {w : Tool} (h : s.tool? n = some w) (depth : Nat) :
    s.wheelShare n depth = s.rewriteTool n (w.dressed depth) :=
  congrArg (fun u : State => u.recompute n) (modifyTool_of_some (s := s.commit [s.oldTool n]) h _)

theorem dresserShare_eq {n : Nat} {x : Tool} (h : s.tool? n = some x) (weight : Nat) :
    s.dresserShare n weight = s.rewriteTool n (x.stroked weight) :=
  congrArg (fun u : State => u.recompute n) (modifyTool_of_some (s := s.commit [s.oldTool n]) h _)

theorem dressEnd_alone {l : Latched} {x : Tool} (h : ¬ (l.wheel ≠ 0 ∧ l.wheelVoid = false))
    (hx : s.tool? l.dresser = some x) :
    s.dressEnd l = s.rewriteTool l.dresser (x.stroked l.stroke) := by
  unfold dressEnd
  rw [if_neg h]
  exact dresserShare_eq hx _

theorem rewriteTool_toolGet {n : Nat} (h0 : n ≠ 0) (u : Tool) (m : Nat) :
    (s.rewriteTool n u).tool? m = if m = n then some u.recomputed else s.tool? m := (s.rewriteTool_leaves h0 u).2.1 m

theorem dressEnd_both {l : Latched} {x w : Tool} (hw0 : l.wheel ≠ 0) (hv : l.wheelVoid = false) (hne : l.wheel ≠ l.dresser)
    (hx : s.tool? l.dresser = some x) (hw : s.tool? l.wheel = some w) : s.dressEnd l =
    (s.rewriteTool l.wheel (w.dressed (l.depth.getD 0))).rewriteTool l.dresser (x.stroked l.stroke) := by
  have held : (s.rewriteTool l.wheel (w.dressed (l.depth.getD 0))).tool? l.dresser = some x := by
    rw [rewriteTool_toolGet hw0, if_neg (Ne.symm hne), hx]
  unfold dressEnd
  rw [if_pos ⟨hw0, hv⟩]
  dsimp only
  rw [wheelShare_eq hw]
  exact dresserShare_eq held _

theorem rewriteTool_journal {n : Nat} {x : Tool} (h0 : n ≠ 0) (hx : s.tool? n = some x) (u : Tool) :
    (s.rewriteTool n u).journal = [.tool n (some x)] :: s.journal := by
  have get : (s.writeTool n u).tool? n = some u := by simp [writeTool]
  have kept := (recompute_leaves h0 get).1 .journal (by decide)
  refine kept.trans ?_
  rw [← hx]
  rfl

end State

end Sys2Proof.Machine
end

section
/-! What a power failure undoes (R22): the obligation, from the commits of the events. -/

namespace Sys2Proof.Machine

/-- A chosen member's number. -/
theorem Group.memberAt_of_get {g : Group} {i n : Nat} (h : g.chain[i]? = some n) : g.memberAt i = n := by
  rw [memberAt, List.getD_eq_getElem?_getD, h]
  rfl

namespace State

variable {s : State}

section

variable {p : Fin 12} {x : Tool} {g : Group} (hx : s.tool? (s.position p).active = some x) (h0 : x.group ≠ 0)
  (hg : s.group? x.group = some g)
include hx h0 hg

theorem selection_chooses {i : Nat} (h : s.scan g = some i) : s.selection p = s.giveSister p x.group g i := by
  have group : s.groupOf x = some g := (if_neg h0).trans hg
  unfold selection
  dsimp only
  rw [hx]
  dsimp only
  rw [group]
  dsimp only
  rw [h]

theorem selection_exhausts (h : s.scan g = none) : s.selection p = s.exhausted p (s.position p).active x g := by
  have group : s.groupOf x = some g := (if_neg h0).trans hg
  unfold selection
  dsimp only
  rw [hx]
  dsimp only
  rw [group]
  dsimp only
  rw [h]

end

/-- The commits of a dress that ends at a fall of DRESS, the wheel's share first (R78). -/
theorem dressEnd_journal {l : Latched} {x w : Tool} (hd : l.dresser ≠ 0) (hne : l.wheel ≠ l.dresser)
    (hx : s.tool? l.dresser = some x) (hw : s.tool? l.wheel = some w) : (s.dressEnd l).journal =
      if l.wheel ≠ 0 ∧ l.wheelVoid = false then [.tool l.dresser (some x)] :: [.tool l.wheel (some w)] :: s.journal
      else [.tool l.dresser (some x)] :: s.journal := by
  split
  · next share =>
    have held : (s.rewriteTool l.wheel (w.dressed (l.depth.getD 0))).tool? l.dresser = some x := by
      rw [rewriteTool_toolGet share.1, if_neg (Ne.symm hne), hx]
    rw [dressEnd_both share.1 share.2 hne hx hw, rewriteTool_journal hd held, rewriteTool_journal share.1 hw]
  · next alone => rw [dressEnd_alone alone hx, rewriteTool_journal hd hx]

end State

/-- Settles O5: the failure reads each record from the oldest unfinished write of it; the commits are those of the
selection, of the dress end's two shares, and of the requests. -/
theorem powerFailUndoesUnfinishedCommits : Obligations.PowerFailUndoesUnfinishedCommits := by
  refine ⟨fun s k hp hok => ?_, fun s t p x g ht hx h0 hg => ?_, ?_, fun s t hp ha => ?_⟩
  · refine ⟨s.takePowerFail k, congrArg Host.Outcome.next (if_pos hp), rfl, rfl, s.takePowerFail_frame k, fun n => ?_,
      fun n => ?_, fun st => ?_⟩
    · exact s.takePowerFail_reads k _ (fun u => u.tool? n) (fun u w h _ => State.putBack_toolGet h w n) rfl hok
    · exact s.takePowerFail_reads k _ (fun u => u.group? n) (fun u w _ h => State.putBack_groupGet h w n) rfl hok
    · exact s.takePowerFail_reads k _ (fun u => u.config st) (fun u w _ _ => State.putBack_configGet w st) rfl hok
  · refine ⟨fun i n y hscan hmember hy => ?_, fun hscan => ?_⟩
    · rw [ht, State.selection_chooses hx h0 hg hscan, State.giveSister_journal, Group.memberAt_of_get hmember, State.oldTool,
        State.oldGroup, hy, hg]
    · rw [ht, State.selection_exhausts hx h0 hg hscan, State.exhausted_journal, State.oldTool, hx]
  · intro s t st power ae raw l x w hp hstate hprimed hop hk hd hv hx hfilt hdiff hraw hpass hpart hw hne ht
    have edges := Monitor.edges_of_primed hprimed raw
    have sampled : (s.withJournal []).takeSample st power ae raw =
        ((s.withJournal []).ended st raw true false).captureWrite st (power, ae) := by
      refine State.takeSample_quiet edges ?_ (.inr ⟨hstate, ?_⟩) rfl (fun h => absurd h (by decide)) fun _ => ⟨?_, ?_⟩
      · simpa [and_assoc] using hpart
      · simp [hfilt, hdiff, hraw]
      · simpa [and_assoc] using hpass
      · simp [hfilt]
    have op : (((s.withJournal []).atEnd st raw true).monitor st).op = some l := by
      rw [State.atEnd_monitor]
      exact (Monitor.filterStep_op _ raw).trans hop
    have ended : (s.withJournal []).ended st raw true false = ((s.withJournal []).atEnd st raw true).dressEnd l := by
      rw [State.ended_eq, if_neg Bool.false_ne_true, State.endProcessing_dress op hk hd hv]
    have taken : exec (.sample st power ae raw) s = .next ((s.withJournal []).takeSample st power ae raw) :=
      congrArg Host.Outcome.next (State.event_of_powered hp _)
    rw [taken, sampled, ended] at ht
    cases ht
    exact State.dressEnd_journal (s := (s.withJournal []).atEnd st raw true) hd hne hx hw
  · refine ⟨fun ht => ?_, fun _ present eMin blank air stale action timeout st hst ht => ?_, fun group g hg ht => ?_, ?_, ?_,
      ?_⟩
    · exact (s.atWork.clearTables_leaves rfl).served hp ha ht
    · subst hst
      exact (s.atWork.setStation_leaves rfl st present eMin blank air stale action timeout).served
        (work := fun u => u.setStation st.val present eMin blank air stale action timeout) hp ha ht
    · exact (s.atWork.deleteGroup_leaves rfl hg).served (work := fun u => u.deleteGroup group) hp ha ht
    · intro group kind len chain policy margin action percent b un ov cl old c hold hc ht
      subst hold hc
      exact (s.atWork.defineGroup_leaves rfl group kind len chain policy margin action percent b un ov cl).served
        (work := fun u => u.defineGroup group kind len chain policy margin action percent b un ov cl) hp ha ht
    · intro p tool x hpx ht
      subst hpx
      exact (s.atWork.confirmSwap_leaves rfl p tool).served (work := fun u => u.confirmSwap p.val tool) hp ha ht
    · intro tool stock selector position c hc ht
      simp only [List.mem_cons, List.not_mem_nil, or_false] at hc
      rcases hc with rfl | rfl | rfl | rfl | rfl | rfl
      · exact (s.atWork.deleteTool_leaves rfl tool).served (work := fun u => u.deleteTool tool) hp ha ht
      · exact (s.atWork.renewTool_leaves rfl tool stock).served (work := fun u => u.renewTool tool stock) hp ha ht
      · exact (s.atWork.withdrawTool_leaves rfl tool).served (work := fun u => u.withdrawTool tool) hp ha ht
      · exact (s.atWork.reinstateTool_leaves rfl tool).served (work := fun u => u.reinstateTool tool) hp ha ht
      · exact (s.atWork.clearReference_leaves rfl tool selector).served
          (work := fun u => u.clearReference tool selector) hp ha ht
      · exact (s.atWork.mount_leaves rfl position tool).served (work := fun u => u.mount position tool) hp ha ht

end Sys2Proof.Machine
end

section
/-! A sample at which a pass or a dress ends, said once for both kinds: the state that it leaves, and what stands of the
tool records. -/

namespace Sys2Proof.Machine

/-- The state of the monitor during an operation. -/
def OpKind.state : OpKind → MonitorState
  | .pass => .pass
  | .dress => .dress

/-- The kind of operation that may start where the other ends. -/
def OpKind.other : OpKind → OpKind
  | .pass => .dress
  | .dress => .pass

/-- The line of an operation. -/
def OpKind.line : OpKind → Lines → Bool
  | .pass, x => x.pass
  | .dress, x => x.dress

/-- The start of an operation. -/
def State.start (s : State) (st : Fin 6) : OpKind → State
  | .pass => s.startPass st
  | .dress => s.startDress st

/-- A tool record without its condition, its tallies and its place. -/
def Tool.worn (x : Tool) : Tool := { x with condition := .sound, tallies := Tallies.zero, placement := .store }

theorem Tool.worn_eq {x y : Tool} (h : y.worn = x.worn) :
    y = { x with condition := y.condition, tallies := y.tallies, placement := y.placement } := by
  have step : y = { y.worn with condition := y.condition, tallies := y.tallies, placement := y.placement } := rfl
  rw [h] at step
  exact step

theorem Tool.worn_blind : SwapBlind Tool.worn := ⟨fun _ _ => rfl, fun _ _ => rfl⟩

theorem Tool.worn_tallyBlind : TallyBlind Tool.worn := fun _ _ => rfl

theorem Tool.tallies_blind : SwapBlind Tool.tallies := ⟨fun _ _ => rfl, fun _ _ => rfl⟩

/-- What a sample is at which the operation of kind `k` ends. -/
structure EndsAt (s : State) (st : Fin 6) (raw : Lines) (k : OpKind) (fall part rise : Bool) : Prop where
  state : (s.monitor st).state = k.state
  primed : (s.monitor st).primed = true
  high : k.line (s.monitor st).filtered = true
  falls : fall = (k.line (s.monitor st).differing && !k.line raw)
  parts : part = (!(s.monitor st).filtered.partEnd && (s.monitor st).differing.partEnd && raw.partEnd)
  ends : (fall || part) = true
  rises : rise = (!k.other.line (s.monitor st).filtered && k.other.line (s.monitor st).differing && k.other.line raw)

namespace EndsAt

variable {s : State} {st : Fin 6} {raw : Lines} {k : OpKind} {fall part rise : Bool}
  (h : EndsAt s st raw k fall part rise) (power ae : Code)
include h

theorem takeSample_eq : s.takeSample st power ae raw =
    if (fall && rise) = true then ((s.ended st raw fall part).start st k.other).sampleWork st power ae
    else (s.ended st raw fall part).captureWrite st (power, ae) := by
  obtain ⟨hst, hprimed, hhigh, hfall, hpart, hends, hrise⟩ := h
  have edges := Monitor.edges_of_primed hprimed raw
  have stays : fall = false → ((s.monitor st).filterStep raw).filtered.pass = true ∨
      ((s.monitor st).filterStep raw).filtered.dress = true := by
    intro hf
    have filtered : ((s.monitor st).filterStep raw).filtered = (s.monitor st).filteredNext raw := by
      rw [Monitor.filterStep, if_pos hprimed]
    have stands : filterLine (k.line (s.monitor st).filtered) (k.line (s.monitor st).differing) (k.line raw) = true := by
      rw [hf] at hfall
      rw [hhigh]
      revert hfall
      cases k.line (s.monitor st).differing <;> cases k.line raw <;> decide
    rw [filtered]
    cases k
    · exact .inl stands
    · exact .inr stands
  have falls : (s.monitor st).state = .pass ∧ ((s.monitor st).edges raw).passFall = fall ∨
      (s.monitor st).state = .dress ∧ ((s.monitor st).edges raw).dressFall = fall := by
    rw [edges, hfall]
    cases k
    · exact .inl ⟨hst, by simp only [OpKind.line] at hhigh ⊢; simp [hhigh]⟩
    · exact .inr ⟨hst, by simp only [OpKind.line] at hhigh ⊢; simp [hhigh]⟩
  have parts : ((s.monitor st).edges raw).partRise = part := by rw [edges, hpart]
  split
  · next hs =>
    obtain ⟨rfl, rfl⟩ : fall = true ∧ rise = true := by simpa using hs
    obtain ⟨a, monitor⟩ := s.ended_monitor st raw true part
    have idle : ((s.ended st raw true part).monitor st).state = .idle := by rw [monitor]; rfl
    rw [State.takeSample_ended rfl parts falls hends stays]
    cases k
    · rw [State.takeRises_dress _ idle]
      · rfl
      · rw [edges]; simp only [OpKind.line] at hhigh; simp [hhigh]
      · rw [edges]; exact hrise.symm
    · rw [State.takeRises_pass _ idle]
      · rfl
      · rw [edges]; exact hrise.symm
      · rw [edges]; simp only [OpKind.line] at hhigh; simp [hhigh]
  · next hs =>
    refine State.takeSample_quiet rfl parts falls hends stays fun hf => ?_
    obtain rfl : rise = false := by simpa [hf] using hs
    rw [edges]
    cases k
    · exact ⟨by simp only [OpKind.line] at hhigh; simp [hhigh], hrise.symm⟩
    · exact ⟨hrise.symm, by simp only [OpKind.line] at hhigh; simp [hhigh]⟩

/-- The monitor after the sample. -/
theorem monitor_state : ((s.takeSample st power ae raw).monitor st).state =
    if fall then if rise then k.other.state else .idle else .settling := by
  obtain ⟨a, monitor⟩ := s.ended_monitor st raw fall part
  have idle : ((s.ended st raw fall part).monitor st).state = if fall then .idle else .settling := by rw [monitor]
  rw [h.takeSample_eq]
  split
  · next hs =>
    obtain ⟨rfl, rfl⟩ : fall = true ∧ rise = true := by simpa using hs
    refine (SameRun.sampleWork _ power ae).1.trans ?_
    cases k <;> simp [State.start, State.startPass, State.startDress, OpKind.other, OpKind.state, Monitor.start]
  · next hs =>
    refine Eq.trans (b := ((s.ended st raw fall part).monitor st).state) rfl (idle.trans ?_)
    cases fall
    · rfl
    · obtain rfl : rise = false := by simpa using hs
      rfl

/-- Without a part end and a start the sample is its end and its capture write. -/
theorem quiet (hp : part = false) (hr : rise = false) : s.takeSample st power ae raw =
    ((s.atEnd st raw fall).endProcessing st).captureWrite st (power, ae) := by
  rw [h.takeSample_eq, State.ended_eq, hp, hr, Bool.and_false, if_neg Bool.false_ne_true, if_neg Bool.false_ne_true]

/-- What stands of the tool records after the end of the operation. -/
theorem keeps : KeepsTools Tool.worn ((s.atEnd st raw fall).endProcessing st) (s.takeSample st power ae raw) := by
  have ended : KeepsTools Tool.worn ((s.atEnd st raw fall).endProcessing st) (s.ended st raw fall part) := by
    rw [State.ended_eq]
    exact KeepsTools.ite (KeepsTools.partEnd _ Tool.worn_blind st) (KeepsTools.refl _)
  rw [h.takeSample_eq]
  refine ended.trans (KeepsTools.ite (KeepsTools.trans (t := (s.ended st raw fall part).start st k.other) ?_ ?_)
    (KeepsTools.of_tools rfl))
  · exact KeepsTools.of_tools (by cases k <;> rfl)
  · exact KeepsTools.sampleWork _ Tool.worn_blind Tool.worn_tallyBlind st power ae

/-- A tool that stands at the end of the operation: its record after the sample. -/
theorem reads {n : Nat} {z : Tool} (hz : ((s.atEnd st raw fall).endProcessing st).tool? n = some z) :
    ∃ y, (s.takeSample st power ae raw).tool? n = some y ∧ y.worn = z.worn ∧ (part = false → rise = false → y = z) := by
  obtain ⟨y, hy, worn⟩ := (h.keeps power ae).get hz
  refine ⟨y, hy, worn, fun hp hr => ?_⟩
  rw [h.quiet power ae hp hr] at hy
  exact Option.some.inj (hy.symm.trans hz)

end EndsAt

end Sys2Proof.Machine
end

section
/-! The end of a dress at a sample: both shares charged and recomputed, the wheel's first (R75, R77, R78). -/

namespace Sys2Proof.Machine

theorem clamp_eq {lo hi : Nat} (h : lo ≤ hi) (v : Nat) : clamp lo hi v = max lo (min hi v) := setting_value h

theorem Tool.stroked_of_worn {x y : Tool} {weight : Nat} (h : y.worn = (x.stroked weight).recomputed.worn) :
    y.used = min 4294967295 (x.used + weight) ∧
      y = { x with used := y.used, dressCount := min 4294967295 (x.dressCount + 1), condition := y.condition,
                   tallies := y.tallies, placement := y.placement } := by
  have record := Tool.worn_eq h
  have used : y.used = min 4294967295 (x.used + weight) := congrArg Tool.used record
  refine ⟨used, ?_⟩
  rw [used]
  exact record

theorem Tool.dressed_of_worn {w v : Tool} {depth : Nat} (h : v.worn = (w.dressed depth).recomputed.worn) :
    v.stock = w.stock - depth ∧ v.dressCount = min 4294967295 (w.dressCount + 1) ∧
      v = { w with stock := v.stock, dressCount := v.dressCount, condition := v.condition, tallies := v.tallies,
                   placement := v.placement } := by
  have record := Tool.worn_eq h
  have stock : v.stock = w.stock - depth := congrArg Tool.stock record
  have count : v.dressCount = min 4294967295 (w.dressCount + 1) := congrArg Tool.dressCount record
  refine ⟨stock, count, ?_⟩
  rw [stock, count]
  exact record

theorem Latched.stroke_none {l : Latched} (h : l.wheel = 0) : l.stroke = 1024 := by
  unfold stroke
  rw [if_pos h]
  rfl

theorem Latched.stroke_some {l : Latched} {depth nominal : Nat} (h : l.wheel ≠ 0) (hd : l.depth = some depth)
    (hn : l.nominal = some nominal) : l.stroke = max 256 (min 4096 (depth * 1024 / nominal)) := by
  unfold stroke
  rw [if_neg h, hd, hn]
  exact clamp_eq (by decide) _

/-- A live dress that ends at a sample. -/
structure DressEndsAt (s : State) (st : Fin 6) (raw : Lines) (l : Latched) (x : Tool) (fall part rise : Bool) : Prop where
  edges : EndsAt s st raw .dress fall part rise
  op : (s.monitor st).op = some l
  kind : l.kind = .dress
  dresser : l.dresser ≠ 0
  void : l.void = false
  held : s.tool? l.dresser = some x

namespace DressEndsAt

variable {s : State} {st : Fin 6} {raw : Lines} {l : Latched} {x : Tool} {fall part rise : Bool}
  (h : DressEndsAt s st raw l x fall part rise) (power ae : Code)
include h

theorem endProcessing_eq : (s.atEnd st raw fall).endProcessing st = (s.atEnd st raw fall).dressEnd l := by
  refine State.endProcessing_dress ?_ h.kind h.dresser h.void
  rw [State.atEnd_monitor]
  exact (Monitor.filterStep_op _ raw).trans h.op

/-- The dresser's share alone is charged. -/
theorem alone (hw : ¬ (l.wheel ≠ 0 ∧ l.wheelVoid = false)) : (s.atEnd st raw fall).endProcessing st =
    (s.atEnd st raw fall).rewriteTool l.dresser (x.stroked l.stroke) := by
  rw [h.endProcessing_eq, State.dressEnd_alone (s := s.atEnd st raw fall) hw h.held]

/-- Both shares are charged. -/
theorem both {w : Tool} (hw0 : l.wheel ≠ 0) (hv : l.wheelVoid = false) (hne : l.wheel ≠ l.dresser)
    (hw : s.tool? l.wheel = some w) : (s.atEnd st raw fall).endProcessing st =
    ((s.atEnd st raw fall).rewriteTool l.wheel (w.dressed (l.depth.getD 0))).rewriteTool l.dresser (x.stroked l.stroke) := by
  rw [h.endProcessing_eq, State.dressEnd_both (s := s.atEnd st raw fall) hw0 hv hne h.held hw]

/-- What the dresser's share leaves, the last of the dress end. -/
theorem dresser_reads {u : State} (hend : (s.atEnd st raw fall).endProcessing st = u.rewriteTool l.dresser (x.stroked l.stroke)) :
    ∃ y, (s.takeSample st power ae raw).tool? l.dresser = some y ∧ y.worn = (x.stroked l.stroke).recomputed.worn ∧
      (part = false → rise = false → y = (x.stroked l.stroke).recomputed ∧
        recomputeLeaves u (s.takeSample st power ae raw) l.dresser x.condition y) := by
  obtain ⟨-, record, leaves⟩ := u.rewriteTool_leaves h.dresser (x.stroked l.stroke)
  rw [← hend] at record leaves
  obtain ⟨y, hy, worn, same⟩ := h.edges.reads power ae ((record l.dresser).trans (if_pos rfl))
  refine ⟨y, hy, worn, fun hp hr => ⟨same hp hr, ?_⟩⟩
  rw [same hp hr, h.edges.quiet power ae hp hr]
  exact recomputeLeaves_congr leaves ⟨rfl, rfl, rfl, rfl⟩ ⟨rfl, rfl, rfl⟩

/-- A wheel whose share is void keeps its record (R42). -/
theorem wheel_spared {w : Tool} (hv : l.wheelVoid = true) (hne : l.wheel ≠ l.dresser) (hw : s.tool? l.wheel = some w) :
    ∃ v, (s.takeSample st power ae raw).tool? l.wheel = some v ∧ v.worn = w.worn ∧
      (part = false → rise = false → v = w) := by
  refine h.edges.reads power ae ?_
  rw [h.alone fun share => absurd (hv.symm.trans share.2) (by decide), State.rewriteTool_toolGet h.dresser, if_neg hne]
  exact hw

/-- A wheel whose share is charged (R75). -/
theorem wheel_charged {w : Tool} {depth : Nat} (hw0 : l.wheel ≠ 0) (hv : l.wheelVoid = false) (hne : l.wheel ≠ l.dresser)
    (hdepth : l.depth = some depth) (hw : s.tool? l.wheel = some w) :
    ∃ v, (s.takeSample st power ae raw).tool? l.wheel = some v ∧ v.worn = (w.dressed depth).recomputed.worn ∧
      (part = false → rise = false → v = (w.dressed depth).recomputed) := by
  refine h.edges.reads power ae ?_
  rw [h.both hw0 hv hne hw, hdepth, State.rewriteTool_toolGet h.dresser, if_neg hne, State.rewriteTool_toolGet hw0, if_pos rfl]
  rfl

end DressEndsAt

/-- What a frame says of a state, it says with the monitors put back. -/
theorem onlyChanges_besideMonitors {s u : State} (h : onlyChanges [.monitors, .tools, .groups, .positions, .notices, .journal]
    (s.withJournal []) u) : onlyChanges [.tools, .groups, .positions, .notices, .journal] s (u.withMonitors s.monitors) := by
  intro x hx
  by_cases hm : x = .monitors
  · subst hm; rfl
  · have same := h x (by simp_all)
    cases x <;> first | exact same | simp at hx hm

theorem Tool.spared_of_worn {w v : Tool} (h : v.worn = w.worn) : v.stock = w.stock ∧ v.dressCount = w.dressCount ∧
    v = { w with stock := v.stock, dressCount := v.dressCount, condition := v.condition, tallies := v.tallies,
                 placement := v.placement } := by
  have record := Tool.worn_eq h
  have stock : v.stock = w.stock := (congrArg Tool.stock h : v.worn.stock = w.worn.stock)
  have count : v.dressCount = w.dressCount := (congrArg Tool.dressCount h : v.worn.dressCount = w.worn.dressCount)
  refine ⟨stock, count, ?_⟩
  rw [stock, count]
  exact record

/-- An ignored or void operation is not charged (R41). -/
theorem Latched.uncharged {l : Latched} (h : l.void = true ∨ l.tool = 0) : ¬ (l.live = true ∧ l.void = false) := by
  rintro ⟨live, clear⟩
  rcases h with h | h
  · rw [clear] at h; cases h
  · unfold Latched.live at live
    unfold Latched.tool at h
    cases hk : l.kind <;> rw [hk] at live h <;> exact absurd h (of_decide_eq_true live)

/-- An operation that charges nothing ends at a fall (R41). -/
theorem EndsAt.discarded {s : State} {st : Fin 6} {raw : Lines} {k : OpKind} {l : Latched}
    (h : EndsAt s st raw k true false false) (power ae : Code) (hop : (s.monitor st).op = some l)
    (hl : ¬ (l.live = true ∧ l.void = false)) :
    s.takeSample st power ae raw = (s.atEnd st raw true).captureWrite st (power, ae) := by
  rw [h.quiet power ae rfl rfl, State.endProcessing_idle (l := l) ?_ hl]
  rw [State.atEnd_monitor]
  exact (Monitor.filterStep_op _ raw).trans hop

/-- Settles O18: each share is the rewrite of one record with its recompute, and what follows in the sample writes of the two
records the condition, the tallies and the place alone. -/
theorem dressEndChargesBothTools : Obligations.DressEndChargesBothTools := by
  constructor
  · intro s st power ae raw l nominal x fall part rise hp hstate hprimed hop hk hd hv hn hx hhigh hfall hpart hend hrise
    have h : DressEndsAt (s.withJournal []) st raw l x fall part rise :=
      ⟨⟨hstate, hprimed, hhigh, hfall, hpart, hend, hrise⟩, hop, hk, hd, hv, hx⟩
    refine ⟨_, congrArg Host.Outcome.next (State.event_of_powered hp _), h.edges.monitor_state power ae, fun hw => ?_,
      fun w depth hw0 hne hdepth hw => ?_⟩
    · obtain ⟨y, hy, worn, same⟩ := h.dresser_reads power ae (h.alone fun share => share.1 hw)
      rw [l.stroke_none hw] at worn
      obtain ⟨used, record⟩ := Tool.stroked_of_worn worn
      refine ⟨y, hy, used, record, fun hp' hr => ?_⟩
      obtain ⟨rfl, leaves⟩ := same hp' hr
      exact ⟨rfl, rfl, recomputeLeaves_congr leaves ⟨rfl, rfl, rfl, rfl⟩ ⟨rfl, rfl, rfl⟩⟩
    · have stroke := Latched.stroke_some hw0 hdepth hn
      cases hwv : l.wheelVoid with
      | true =>
        obtain ⟨v, hv', vworn, vsame⟩ := h.wheel_spared power ae hwv hne hw
        obtain ⟨y, hy, worn, same⟩ := h.dresser_reads power ae
          (h.alone fun share => absurd (hwv.symm.trans share.2) (by decide))
        rw [stroke] at worn
        obtain ⟨used, record⟩ := Tool.stroked_of_worn worn
        obtain ⟨stock, count, wheelRecord⟩ := Tool.spared_of_worn vworn
        refine ⟨y, v, hy, hv', used, record, fun _ => ⟨stock, count⟩, (fun hf => by cases hf), wheelRecord,
          fun hp' hr => ?_⟩
        obtain ⟨rfl, leaves⟩ := same hp' hr
        obtain rfl := vsame hp' hr
        exact ⟨rfl, rfl, rfl, rfl,
          fun _ => ⟨rfl, recomputeLeaves_congr leaves ⟨rfl, rfl, rfl, rfl⟩ ⟨rfl, rfl, rfl⟩⟩, fun hf => by cases hf⟩
      | false =>
        obtain ⟨v, hv', vworn, vsame⟩ := h.wheel_charged power ae hw0 hwv hne hdepth hw
        have hend := h.both hw0 hwv hne hw
        rw [hdepth, Option.getD_some] at hend
        obtain ⟨frame, -, leaves⟩ := ((s.withJournal []).atEnd st raw fall).rewriteTool_leaves hw0 (w.dressed depth)
        obtain ⟨y, hy, worn, same⟩ := h.dresser_reads power ae hend
        rw [stroke] at worn
        obtain ⟨used, record⟩ := Tool.stroked_of_worn worn
        obtain ⟨stock, count, wheelRecord⟩ := Tool.dressed_of_worn vworn
        refine ⟨y, v, hy, hv', used, record, (fun hf => by cases hf), fun _ => ⟨stock, count⟩, wheelRecord,
          fun hp' hr => ?_⟩
        obtain ⟨rfl, dresserLeaves⟩ := same hp' hr
        obtain rfl := vsame hp' hr
        refine ⟨rfl, rfl, rfl, rfl, (fun hf => by cases hf), fun _ =>
          ⟨(((s.withJournal []).atEnd st raw fall).rewriteTool l.wheel (w.dressed depth)).withMonitors s.monitors, ?_, ?_,
            ?_⟩⟩
        · exact onlyChanges_besideMonitors (onlyChanges_trans
            (onlyChanges_mono ((s.withJournal []).atEnd_frame st raw fall) (by decide)) (onlyChanges_mono frame (by decide)))
        · exact recomputeLeaves_congr leaves ⟨rfl, rfl, rfl, rfl⟩ ⟨rfl, rfl, rfl⟩
        · exact recomputeLeaves_congr dresserLeaves ⟨rfl, rfl, rfl, rfl⟩ ⟨rfl, rfl, rfl⟩
  · intro s st power ae raw l m hp hm hprimed hop hfall hpart hnone
    subst hm
    have noPart : (!(s.monitor st).filtered.partEnd && (s.monitor st).differing.partEnd && raw.partEnd) = false := by
      simpa [and_assoc] using hpart
    have sampled : (s.withJournal []).takeSample st power ae raw =
        ((s.withJournal []).atEnd st raw true).captureWrite st (power, ae) := by
      rcases hfall with ⟨hst, _, hhigh, hdiff, hraw, hrise⟩ | ⟨hst, _, hhigh, hdiff, hraw, hrise⟩
      · have ends : EndsAt (s.withJournal []) st raw .pass true false false :=
          ⟨hst, hprimed, hhigh, by simp [OpKind.line, hdiff, hraw], noPart.symm, rfl,
            by simpa [OpKind.line, OpKind.other, and_assoc] using hrise⟩
        exact ends.discarded power ae hop (Latched.uncharged hnone)
      · have ends : EndsAt (s.withJournal []) st raw .dress true false false :=
          ⟨hst, hprimed, hhigh, by simp [OpKind.line, hdiff, hraw], noPart.symm, rfl,
            by simpa [OpKind.line, OpKind.other, and_assoc] using hrise⟩
        exact ends.discarded power ae hop (Latched.uncharged hnone)
    have monitor : (((s.withJournal []).atEnd st raw true).captureWrite st (power, ae)).monitor st = _ :=
      (s.withJournal []).atEnd_monitor st raw true
    rw [Monitor.filterStep_of_primed (m := (s.withJournal []).monitor st) hprimed] at monitor
    refine ⟨_, congrArg Host.Outcome.next (State.event_of_powered hp _), ?_⟩
    rw [sampled, monitor]
    refine ⟨fun x hx => ?_, rfl, hop, rfl, rfl, rfl, oneBecomes_set _ _ _⟩
    cases x <;> first | rfl | simp at hx

end Sys2Proof.Machine
end

section
/-! The end of a pass, stage by stage: the reference step with its notice, the detection, and the charge (Chapter 3). -/

namespace Sys2Proof.Machine

/-- The class reference after the step that an outcome gives it (R57, R62). -/
def PassOutcome.move (o : PassOutcome) (x : ClassRef) (energy : Nat) (j : JudgeParams) : ClassRef :=
  match o with
  | .learning => x.learn energy j.learnCount
  | .good => x.smooth energy j.shift
  | .unjudged => x
  | .air => x
  | .underload => x
  | .overload => x

/-- A learning step completes its run when n reaches the latched L (R58). -/
theorem ClassRef.learn_learned {x : ClassRef} {energy learnCount : Nat} :
    (x.learn energy learnCount).state = .learned ↔ learnCount ≤ x.n + 1 := by
  unfold learn
  dsimp only
  split <;> simp_all

theorem set_get {α : Type} (v : Vector α 4) (c d : Fin 4) (x : α) : (v.set c x)[d] = if d = c then x else v[d] :=
  oneBecomes_set v c x d

/-- The references after the reference step of a pass end, withheld at a station whose incident is open (R59, R63). -/
def PassEnd.movedRefs (e : PassEnd) (withheld : Bool) (t : Tool) : Vector ClassRef 4 :=
  if withheld then t.refs
  else t.refs.set e.passClass ((e.outcome t).move t.refs[e.passClass] e.energy e.judge)

theorem PassEnd.movedRefs_get (e : PassEnd) (withheld : Bool) (t : Tool) (d : Fin 4) : (e.movedRefs withheld t)[d] =
    if d = e.passClass ∧ withheld = false then (e.outcome t).move t.refs[e.passClass] e.energy e.judge else t.refs[d] := by
  unfold movedRefs
  cases withheld
  · simp only [Bool.false_eq_true, if_false, set_get, and_true]
  · simp

/-- A step that leaves the reference as it was leaves all of them. -/
theorem PassEnd.movedRefs_of_stands {e : PassEnd} {t : Tool} (withheld : Bool)
    (h : (e.outcome t).move t.refs[e.passClass] e.energy e.judge = t.refs[e.passClass]) : e.movedRefs withheld t = t.refs := by
  refine Vector.ext fun i hi => ?_
  have read := e.movedRefs_get withheld t ⟨i, hi⟩
  rw [h] at read
  refine Eq.trans read ?_
  split
  · next hc => exact congrArg (t.refs[·]) hc.1.symm
  · rfl

namespace State

variable {s : State}

/-- A tool's record written as it was written: nothing differs. -/
theorem toolBecomes_self {n : Nat} {x : Tool} (h : s.tool? n = some x) : toolBecomes n (some x) s s := fun m => by
  split
  · subst_vars; exact h
  · rfl

/-- The reference step of a pass end has taken `s` to `u`: the record's references, and the notice of a completed run. -/
def ReferenceMoved (s u : State) (st : Fin 6) (e : PassEnd) (t : Tool) : Prop :=
  toolBecomes e.wheel (some { t with refs := e.movedRefs (s.incident st).isOpen t }) s u ∧
    u.notices =
      if (s.incident st).isOpen = false ∧ e.outcome t = .learning ∧ e.judge.learnCount ≤ t.refs[e.passClass].n + 1 then
        s.notices.push false ⟨.learned, some st, some .wheel, e.wheel, t.tag,
          (e.movedRefs (s.incident st).isOpen t)[e.passClass].value, e.passClass.val, s.clock⟩
      else s.notices

section

variable {e : PassEnd} {t : Tool} {st : Fin 6}

/-- No step is made: the references and the queues stand. -/
theorem ReferenceMoved.stands (h : s.tool? e.wheel = some t)
    (hs : (s.incident st).isOpen = true ∨ e.outcome t ≠ .learning ∧ e.outcome t ≠ .good) : ReferenceMoved s s st e t := by
  have refs : e.movedRefs (s.incident st).isOpen t = t.refs := by
    rcases hs with hopen | ⟨hl, hg⟩
    · rw [hopen]; rfl
    · refine PassEnd.movedRefs_of_stands _ ?_
      cases ho : e.outcome t <;> first | rfl | exact absurd ho ‹_›
  unfold ReferenceMoved
  rw [refs, if_neg]
  · exact ⟨toolBecomes_self h, rfl⟩
  · rintro ⟨hopen, hl, _⟩
    rcases hs with ho | ho
    · rw [hopen] at ho; cases ho
    · exact ho.1 hl

/-- The learning step, with its LEARNED notice (R57, R58). -/
theorem ReferenceMoved.learns (h0 : e.wheel ≠ 0) (hopen : (s.incident st).isOpen = false) (ho : e.outcome t = .learning) :
    ReferenceMoved s (s.learnStep st e t) st e t := by
  have refs : e.movedRefs false t = t.refs.set e.passClass (t.refs[e.passClass].learn e.energy e.judge.learnCount) := by
    unfold PassEnd.movedRefs
    rw [ho]
    rfl
  have moved : (e.movedRefs false t)[e.passClass] = t.refs[e.passClass].learn e.energy e.judge.learnCount := by
    rw [refs, set_get, if_pos rfl]
  unfold ReferenceMoved
  rw [hopen, moved, refs]
  unfold learnStep
  dsimp only
  simp only [ClassRef.learn_learned, ho, true_and]
  split
  · refine ⟨fun m => setTool_toolGet .., ?_⟩
    unfold notify tagOf
    rw [setTool_toolGet, if_pos rfl, if_neg h0]
    rfl
  · exact ⟨fun m => setTool_toolGet .., rfl⟩

/-- The smoothing step (R62). -/
theorem ReferenceMoved.smooths (hopen : (s.incident st).isOpen = false) (ho : e.outcome t = .good) :
    ReferenceMoved s (s.smoothStep e t) st e t := by
  have refs : e.movedRefs false t = t.refs.set e.passClass (t.refs[e.passClass].smooth e.energy e.judge.shift) := by
    unfold PassEnd.movedRefs
    rw [ho]
    rfl
  unfold ReferenceMoved
  rw [hopen, refs, ho, if_neg fun h => by cases h.2.1]
  exact ⟨fun m => setTool_toolGet .., rfl⟩

/-- What the reference step of a pass end leaves (R57 to R63). -/
theorem moveReference_moves (h : s.tool? e.wheel = some t) (h0 : e.wheel ≠ 0) :
    ReferenceMoved s (s.moveReference st e t) st e t := by
  unfold moveReference
  split
  · next hopen => exact .stands h (.inl hopen)
  · next hopen =>
    have closed : (s.incident st).isOpen = false := by simpa using hopen
    split
    · next ho => exact .learns h0 closed ho
    · next ho => exact .smooths closed ho
    all_goals next ho => exact .stands h (.inr (by rw [ho]; decide))

end

/-! ### The detection and the charge -/

/-- The tallies of the tool of a detection after it (R94). -/
theorem takeDetection_tallies {d : Detection} {x z : Tool} (hx : s.tool? d.tool = some x)
    (hz : (s.takeDetection d).tool? d.tool = some z) : z.tallies = x.tallies.bump d.cls := by
  have tallied : (s.tally d).tool? d.tool = some { x with tallies := x.tallies.bump d.cls } := by
    rw [tally, modifyTool_toolGet, if_pos rfl, hx]
    rfl
  obtain ⟨y, hy, same⟩ := (KeepsTools.answerDetection (s.tally d) Tool.tallies_blind d).get tallied
  rw [takeDetection_eq, hy] at hz
  exact (congrArg Tool.tallies (Option.some.inj hz)).symm.trans same

/-- The record of a tool after a charge is recomputed (R56, R73). -/
theorem charge_leaves {n : Nat} {z : Tool} (h0 : n ≠ 0) (hz : s.tool? n = some z) (weight : Nat) :
    toolBecomes n (some ({ z with used := satAdd32 z.used weight } : Tool).recomputed) s (s.charge n weight) ∧
      recomputeLeaves s (s.charge n weight) n z.condition ({ z with used := satAdd32 z.used weight } : Tool).recomputed := by
  have charged : s.charge n weight = (s.setTool n { z with used := satAdd32 z.used weight }).recompute n :=
    congrArg (fun u : State => u.recompute n) (modifyTool_of_some hz _)
  have get : (s.setTool n { z with used := satAdd32 z.used weight }).tool? n =
      some { z with used := satAdd32 z.used weight } := by
    simp
  obtain ⟨-, record, leaves⟩ := recompute_leaves h0 get
  rw [charged]
  refine ⟨fun m => (record m).trans ?_, recomputeLeaves_congr leaves ⟨rfl, rfl, rfl, rfl⟩ ⟨rfl, rfl, rfl⟩⟩
  split
  · rfl
  · next hm => rw [setTool_toolGet, if_neg hm]

/-- Stage 7 of a pass end: the record's used count and condition, and the recompute (R56, R73). -/
theorem chargePass_reads {n : Nat} {z : Tool} (h0 : n ≠ 0) (hz : s.tool? n = some z) (weight : Option Nat) :
    ∃ y, (s.chargePass n weight).tool? n = some y ∧
      y = { z with used := weight.elim z.used (satAdd32 z.used), condition := y.condition } ∧
      (weight = none → y.condition = z.condition ∧ s.chargePass n weight = s) ∧
      (weight ≠ none → recomputeLeaves s (s.chargePass n weight) n z.condition y) := by
  cases weight with
  | none => exact ⟨z, hz, rfl, fun _ => ⟨rfl, rfl⟩, fun h => absurd rfl h⟩
  | some w =>
    obtain ⟨record, leaves⟩ := charge_leaves h0 hz w
    exact ⟨_, (record n).trans (if_pos rfl), rfl, fun h => absurd h (by simp), fun _ => leaves⟩

end State

/-- The tallies after a pass end that may have raised a detection (R94). -/
def Tallies.after (t : Tallies) (found : Option (DetClass × Nat)) : Tallies := found.elim t fun f => t.bump f.1

/-- Stage 6 of a pass end: what the detection leaves of the wheel's record. -/
theorem State.raiseAtPassEnd_reads {s : State} {e : PassEnd} {x : Tool} (hx : s.tool? e.wheel = some x) (st : Fin 6)
    (found : Option (DetClass × Nat)) : ∃ z, (s.raiseAtPassEnd st e found).tool? e.wheel = some z ∧ z.worn = x.worn ∧
      z.tallies = x.tallies.after found := by
  cases found with
  | none => exact ⟨x, hx, rfl, rfl⟩
  | some f =>
    have keeps := KeepsTools.takeDetection s Tool.worn_blind Tool.worn_tallyBlind
      ⟨st, .wheel, e.wheel, f.1, f.2, some e.passClass, e.index⟩
    obtain ⟨z, hz, worn⟩ := keeps.get hx
    exact ⟨z, hz, worn, State.takeDetection_tallies hx hz⟩

end Sys2Proof.Machine
end

section
/-! The end of a pass at a sample: the wheel is charged, its reference moves, its detection is taken (R36, R48, R49). -/

namespace Sys2Proof.Machine

namespace EndsAt

variable {s : State} {st : Fin 6} {raw : Lines} {k : OpKind} {fall part rise : Bool}
  (h : EndsAt s st raw k fall part rise) (power ae : Code)
include h

/-- The AIR counter after the sample is that after the end of the operation. -/
theorem monitor_air : ((s.takeSample st power ae raw).monitor st).air =
    (((s.atEnd st raw fall).endProcessing st).monitor st).air := by
  have ended : SameRun st ((s.atEnd st raw fall).endProcessing st) (s.ended st raw fall part) := by
    rw [State.ended_eq]
    exact SameRun.ite (SameRun.of_monitors (State.partEnd_monitors ..)) (SameRun.refl _)
  rw [h.takeSample_eq]
  split
  · refine (SameRun.sampleWork _ power ae).2.trans (Eq.trans ?_ ended.2)
    cases k <;> simp [State.start, State.startPass, State.startDress, OpKind.other, Monitor.start]
  · exact ended.2

/-- The commits of the end of the operation stand in the journal of the sample. -/
theorem worked : Worked ((s.atEnd st raw fall).endProcessing st) (s.takeSample st power ae raw) := by
  have ended : Worked ((s.atEnd st raw fall).endProcessing st) (s.ended st raw fall part) := by
    rw [State.ended_eq]
    exact Worked.ite (Worked.partEnd ..) (Worked.refl _)
  have start : Worked (s.ended st raw fall part) ((s.ended st raw fall part).start st k.other) := by
    cases k
    · exact Worked.startDress ..
    · exact Worked.startPass ..
  rw [h.takeSample_eq]
  exact ended.trans (Worked.ite (start.trans (Worked.sampleWork ..)) (Worked.captureWrite ..))

variable (hs : (fall && rise) = false)
include hs

/-- Where no operation starts, the tallies stand after the end. -/
theorem keeps_tallies : KeepsTools Tool.tallies ((s.atEnd st raw fall).endProcessing st) (s.takeSample st power ae raw) := by
  rw [h.takeSample_eq, hs, if_neg Bool.false_ne_true, State.ended_eq]
  exact (KeepsTools.ite (KeepsTools.partEnd _ Tool.tallies_blind st) (KeepsTools.refl _)).trans (KeepsTools.of_tools rfl)

/-- Where no operation starts, the incidents stand after the end and the captures but for the write of the sample. -/
theorem incidents_captures :
    (s.takeSample st power ae raw).incidents = ((s.atEnd st raw fall).endProcessing st).incidents ∧
      oneBecomes st ((((s.atEnd st raw fall).endProcessing st).capture st).write (power, ae))
        ((s.atEnd st raw fall).endProcessing st).captures (s.takeSample st power ae raw).captures := by
  rw [h.takeSample_eq, hs, if_neg Bool.false_ne_true, State.ended_eq]
  have set : ∀ u : State, (u.captureWrite st (power, ae)).captures = u.captures.set st ((u.capture st).write (power, ae)) :=
    fun _ => rfl
  rw [set]
  split
  · rw [State.partEnd_captures, State.partEnd_capture]
    exact ⟨State.partEnd_incidents .., oneBecomes_set _ _ _⟩
  · exact ⟨rfl, oneBecomes_set _ _ _⟩

end EndsAt

/-- A live pass that ends at a sample. -/
structure PassEndsAt (s : State) (st : Fin 6) (raw : Lines) (l : Latched) (j : JudgeParams) (c : Fin 4) (x : Tool)
    (fall part rise : Bool) : Prop where
  edges : EndsAt s st raw .pass fall part rise
  op : (s.monitor st).op = some l
  kind : l.kind = .pass
  wheel : l.wheel ≠ 0
  void : l.void = false
  judge : l.judge = some j
  passClass : l.passClass = some c
  held : s.tool? l.wheel = some x

/-- What a pass that ends hands on (R36). -/
def handedOn (m : Monitor) (l : Latched) (j : JudgeParams) (c : Fin 4) : PassEnd :=
  ⟨l.wheel, c, m.energy, m.powerFaultMark, l.eMin, j, m.lastIndex⟩

namespace PassEndsAt

variable {s : State} {st : Fin 6} {raw : Lines} {l : Latched} {j : JudgeParams} {c : Fin 4} {x : Tool} {fall part rise : Bool}
  (h : PassEndsAt s st raw l j c x fall part rise) (power ae : Code)
include h

theorem atEnd_monitor : (s.atEnd st raw fall).monitor st = { s.monitor st with
    filtered := (s.monitor st).filteredNext raw, differing := (s.monitor st).differingNext raw,
    state := if fall then .idle else .settling } := by
  rw [State.atEnd_monitor, Monitor.filterStep_of_primed h.edges.primed]

/-- The end of the operation: the reference step and the AIR counter, then the detection, then the charge (R49). -/
theorem endProcessing_eq {o : PassOutcome} {r : Nat} (ho : (handedOn (s.monitor st) l j c).outcome x = o)
    (hr : (handedOn (s.monitor st) l j c).ratio x = r) : (s.atEnd st raw fall).endProcessing st =
    (((s.atEnd st raw fall).judged st (handedOn (s.monitor st) l j c) x).raiseAtPassEnd st (handedOn (s.monitor st) l j c)
      (passDetection o r (s.monitor st).air (s.config st).airLimit)).chargePass l.wheel (passWeight o r) := by
  have op : ((s.atEnd st raw fall).monitor st).op = some l := by rw [h.atEnd_monitor]; exact h.op
  have handed : ((s.atEnd st raw fall).monitor st).passEndOf l = handedOn (s.monitor st) l j c := by
    rw [h.atEnd_monitor, Monitor.passEndOf, h.judge, h.passClass]
    rfl
  have air : ((s.atEnd st raw fall).monitor st).air = (s.monitor st).air := by rw [h.atEnd_monitor]
  have config : (s.atEnd st raw fall).config st = s.config st := rfl
  have held : (s.atEnd st raw fall).tool? (handedOn (s.monitor st) l j c).wheel = some x := h.held
  rw [State.endProcessing_pass op h.kind h.wheel h.void, handed, State.passEnd_eq held, ho, hr, air, config]
  rfl

/-- The pass end up to its detection, of which the record, the notice and the frame are known. -/
theorem judged_reads : onlyChanges [.tools, .monitors, .notices, .journal] s
      ((s.atEnd st raw fall).judged st (handedOn (s.monitor st) l j c) x) ∧
    State.ReferenceMoved s ((s.atEnd st raw fall).judged st (handedOn (s.monitor st) l j c) x) st
      (handedOn (s.monitor st) l j c) x := by
  refine ⟨onlyChanges_trans (onlyChanges_mono (s.atEnd_frame st raw fall) (by decide)) (State.judged_frame _ st _ x), ?_⟩
  have held : ((s.atEnd st raw fall).commit [(s.atEnd st raw fall).oldTool l.wheel]).tool? l.wheel = some x := h.held
  exact State.moveReference_moves (e := handedOn (s.monitor st) l j c) (st := st) held h.wheel

/-- The AIR counter after the sample (R64). -/
theorem air_eq {o : PassOutcome} {r : Nat} (ho : (handedOn (s.monitor st) l j c).outcome x = o)
    (hr : (handedOn (s.monitor st) l j c).ratio x = r) : ((s.takeSample st power ae raw).monitor st).air =
      if o = .air ∧ (s.monitor st).air + 1 < (s.config st).airLimit then (s.monitor st).air + 1 else 0 := by
  have config : (s.atEnd st raw fall).config st = s.config st := rfl
  rw [h.edges.monitor_air power ae, h.endProcessing_eq ho hr]
  refine Eq.trans (b := (((s.atEnd st raw fall).judged st (handedOn (s.monitor st) l j c) x).monitor st).air) ?_ ?_
  · exact congrArg (fun m : Vector Monitor 6 => m[st].air) ((State.chargePass_swaps _ _ _ .monitors (by decide)).trans
      (State.raiseAtPassEnd_frame _ st _ _ .monitors (by decide)))
  · rw [State.judged_monitor, h.atEnd_monitor, ho, config]

/-- The oldest commit of the sample is the wheel's (R48). -/
theorem journal_getLast? (hj : s.journal = []) :
    (s.takeSample st power ae raw).journal.getLast? = some [.tool l.wheel (some x)] := by
  have committed : ((s.atEnd st raw fall).commit [(s.atEnd st raw fall).oldTool l.wheel]).journal.getLast? =
      some [.tool l.wheel (some x)] := by
    rw [State.commit_getLast? (s.atEnd st raw fall) hj, State.oldTool]
    exact congrArg (fun y => some [RetainedWrite.tool l.wheel y]) h.held
  have judged : Worked ((s.atEnd st raw fall).commit [(s.atEnd st raw fall).oldTool l.wheel])
      ((s.atEnd st raw fall).judged st (handedOn (s.monitor st) l j c) x) :=
    (Worked.moveReference ..).trans (Worked.stepAir ..)
  have ended : Worked ((s.atEnd st raw fall).judged st (handedOn (s.monitor st) l j c) x)
      ((s.atEnd st raw fall).endProcessing st) := by
    rw [h.endProcessing_eq rfl rfl]
    exact (Worked.raiseAtPassEnd ..).trans (Worked.chargePass ..)
  exact ((judged.trans ended).trans (h.edges.worked power ae)).getLast? committed

end PassEndsAt

/-- Settles O17: the end of the operation runs the stages of the pass end in their order; what follows it in the sample writes
of the wheel's record the condition, the tallies and the place alone. -/
theorem passEndChargesTheWheel : Obligations.PassEndChargesTheWheel := by
  intro s st power ae raw l j c x o r fall part rise found hp hstate hprimed hop hk hw hv hj hc hx hhigh hfall hpart hend
    hrise ho hr hfound
  have h : PassEndsAt (s.withJournal []) st raw l j c x fall part rise :=
    ⟨⟨hstate, hprimed, hhigh, hfall, hpart, hend, hrise⟩, hop, hk, hw, hv, hj, hc, hx⟩
  have outcome : (handedOn ((s.withJournal []).monitor st) l j c).outcome x = o := ho.symm
  have ratio : (handedOn ((s.withJournal []).monitor st) l j c).ratio x = r := hr.symm
  have air := h.air_eq power ae outcome ratio
  have last := h.journal_getLast? power ae rfl
  have state := h.edges.monitor_state power ae
  obtain ⟨frame, moved, notices⟩ := h.judged_reads
  obtain ⟨z, hz, zworn, ztallies⟩ := State.raiseAtPassEnd_reads
    (e := handedOn ((s.withJournal []).monitor st) l j c) ((moved l.wheel).trans (if_pos rfl)) st found
  obtain ⟨y', hy', charged, free, leaves⟩ := State.chargePass_reads hw hz (passWeight o r)
  have ended : ((s.withJournal []).atEnd st raw fall).endProcessing st = _ := h.endProcessing_eq outcome ratio
  have found' : passDetection o r ((s.withJournal []).monitor st).air ((s.withJournal []).config st).airLimit = found :=
    hfound.symm
  rw [found'] at ended
  rw [← ended] at hy' free leaves
  obtain ⟨y, hy, worn, same⟩ := h.edges.reads power ae hy'
  generalize hrefs :
    (handedOn ((s.withJournal []).monitor st) l j c).movedRefs ((s.withJournal []).incident st).isOpen x = refs at *
  have used : z.used = x.used := (congrArg Tool.used zworn : z.worn.used = _)
  have record : y.worn = ({ x with refs := refs, used := (passWeight o r).elim x.used (satAdd32 x.used) } : Tool).worn := by
    have charge : y'.worn = { z.worn with used := (passWeight o r).elim z.used (satAdd32 z.used) } := by rw [charged]; rfl
    rw [worn, charge, zworn, used]
    rfl
  have yused : y.used = (passWeight o r).elim x.used (satAdd32 x.used) := (congrArg Tool.used record : y.worn.used = _)
  have yrefs : y.refs = refs := (congrArg Tool.refs record : y.worn.refs = _)
  refine ⟨_, y, congrArg Host.Outcome.next (State.event_of_powered hp _), hy, ?_, ?_, fun d => ?_, air, last, fun hs => ?_,
    fun hs => ⟨?_, ?_, ?_⟩⟩
  · rw [yused, yrefs]
    exact Tool.worn_eq record
  · rw [yused]
    cases passWeight o r <;> rfl
  · rw [yrefs, ← hrefs]
    refine (PassEnd.movedRefs_get ..).trans ?_
    rw [outcome]
    cases o <;> rfl
  · obtain ⟨rfl, rfl⟩ : fall = true ∧ rise = true := by simpa using hs
    exact state
  · rw [state]
    cases fall
    · rfl
    · obtain rfl : rise = false := by simpa using hs
      rfl
  · obtain ⟨w, hw', tallies⟩ := (h.edges.keeps_tallies power ae hs).get hy'
    obtain rfl : w = y := Option.some.inj (hw'.symm.trans hy)
    have charge : y'.tallies = z.tallies := by rw [charged]
    rw [tallies, charge, ztallies]
    rcases found with _ | ⟨_ | _ | _ | _, _⟩ <;> rfl
  · obtain ⟨incidents, captures⟩ := h.edges.incidents_captures power ae hs
    have charge := State.chargePass_swaps (((s.withJournal []).atEnd st raw fall).judged st
      (handedOn ((s.withJournal []).monitor st) l j c) x |>.raiseAtPassEnd st (handedOn ((s.withJournal []).monitor st) l j c)
      found) l.wheel (passWeight o r)
    rw [← ended] at charge
    have kept := charge .captures (by decide)
    have capture : (((s.withJournal []).atEnd st raw fall).endProcessing st).capture st = _ := congrArg (·[st]) kept
    rw [kept, capture] at captures
    refine ⟨_, _, z, onlyChanges_trans (t := s.withJournal []) (fun p hp => ?_) frame, ?_, ?_, ?_, hz,
      incidents.trans (charge .incidents (by decide)), captures, fun hpf => ?_⟩
    · cases p <;> first | rfl | simp at hp
    · rw [yrefs]; exact moved
    · rw [yrefs]
      rw [outcome] at notices
      exact notices
    · cases found <;> rfl
    · obtain rfl : fall = true := by simpa [hpf] using hend
      obtain rfl : rise = false := by simpa using hs
      obtain rfl := same hpf rfl
      have quiet := h.edges.quiet power ae hpf rfl
      refine ⟨by rw [charged], ?_⟩
      rw [quiet]
      cases hweight : passWeight o r with
      | none =>
        obtain ⟨condition, stands⟩ := free hweight
        rw [stands]
        exact ⟨condition, rfl, rfl, rfl⟩
      | some w => exact recomputeLeaves_congr (leaves (by simp [hweight])) ⟨rfl, rfl, rfl, rfl⟩ ⟨rfl, rfl, rfl⟩

end Sys2Proof.Machine
end

section
/-! MOUNT: the checks in their order, and the tool, the position and the monitor that a taken one writes (R148). -/

namespace Sys2Proof.Machine

namespace State

variable {s : State}

/-- A MOUNT at a position of a present station is refused by the checks of R148 or taken. -/
theorem mount_checked {p : Fin 12} {tool : Nat} (ht : isToolNumber tool = true)
    (hp : (s.config (stationOf p)).present = true) : s.mount p.val tool =
      match s.refuseMount p tool with
      | some r => s.refuse r
      | none => (s.takeMount p tool).accept .ok := by
  unfold mount atPosition
  rw [if_pos ht, positionArg_val]
  exact if_pos hp

/-- The checks 4 to 7 of R148, for a defined tool. -/
theorem refuseMount_eq {p : Fin 12} {tool : Nat} {x : Tool} (hx : s.tool? tool = some x) : s.refuseMount p tool =
    if (s.position p).state ≠ .empty then some .busy
    else if x.kind ≠ seatKind p then some .wrongKind
    else if x.placement ≠ .store then some .busy
    else if x.condition ≠ .sound ∧ x.condition ≠ .warned then some .wrongState
    else none := by
  have serves : x.condition.serviceable = false ↔ x.condition ≠ .sound ∧ x.condition ≠ .warned := by
    cases x.condition <;> decide
  unfold refuseMount
  rw [hx]
  simp only [serves]

theorem mount_refused {p : Fin 12} {tool : Nat} {r : ResultCode} (ht : isToolNumber tool = true)
    (hp : (s.config (stationOf p)).present = true) (hr : s.atWork.refuseMount p tool = some r) :
    refused s (s.serve fun u => u.mount p.val tool) r := by
  refine refused_of ?_
  rw [mount_checked (s := s.atWork) ht hp, hr]

variable (s)

/-- A taken MOUNT writes the tool, the position and the one monitor of the station (R148). -/
theorem takeMount_eq (p : Fin 12) (tool : Nat) : s.takeMount p tool =
    (s.seatTool p tool).setMonitor (stationOf p) ((s.monitor (stationOf p)).afterToolChange (seatKind p) true) := by
  refine ((s.seatTool p tool).mountReport_eq p).trans ?_
  have monitor : (s.seatTool p tool).monitor (stationOf p) = s.monitor (stationOf p) := by simp [seatTool, place]
  rw [monitor]

theorem takeMount_frame (p : Fin 12) (tool : Nat) :
    onlyChanges [.journal, .tools, .positions, .monitors] s (s.takeMount p tool) := by
  rw [takeMount_eq]
  unfold seatTool
  refine onlyChanges_of ?_ ?_ ?_ ?_ ?_ ?_ ?_ ?_ ?_ ?_ ?_ ?_ ?_ ?_ <;> simp [place]

theorem takeMount_tool (p : Fin 12) {tool : Nat} {x : Tool} (hx : s.tool? tool = some x) :
    toolBecomes tool (some { x with placement := .mounted p }) s (s.takeMount p tool) := by
  intro m
  rw [takeMount_eq]
  simp [seatTool, place, hx]

theorem takeMount_positions (p : Fin 12) (tool : Nat) :
    oneBecomes p ⟨.serving, tool, 0, 0⟩ s.positions (s.takeMount p tool).positions := by
  have set : (s.takeMount p tool).positions = s.positions.set p ⟨.serving, tool, 0, 0⟩ := by
    rw [takeMount_eq]; simp [seatTool, place]
  rw [set]
  exact oneBecomes_set _ _ _

theorem takeMount_monitors (p : Fin 12) (tool : Nat) : oneBecomes (stationOf p)
    ((s.monitor (stationOf p)).afterToolChange (seatKind p) true) s.monitors (s.takeMount p tool).monitors := by
  have set : (s.takeMount p tool).monitors =
      s.monitors.set (stationOf p) ((s.monitor (stationOf p)).afterToolChange (seatKind p) true) := by
    rw [takeMount_eq]; simp [seatTool, place]
  rw [set]
  exact oneBecomes_set _ _ _

end State

/-- Settles O46: the checks of R148 in their order, then the three writes of a taken MOUNT. -/
theorem mountSeatsTheTool : Obligations.MountSeatsTheTool := by
  intro s position tool hp
  refine ⟨_, congrArg Host.Outcome.next (State.request_of_powered hp _), fun bad => ?_, ?_⟩
  · refine refused_of ?_
    unfold State.mount State.atPosition
    split
    · next ht =>
      have far : 11 < position := by rw [isToolNumber_iff] at ht; omega
      rw [positionArg_of_gt far]
    · rfl
  · rintro p rfl h0 h128
    have number : isToolNumber tool = true := isToolNumber_iff.2 ⟨h0, h128⟩
    split
    · next absent =>
      refine refused_of ?_
      unfold State.mount State.atPosition
      rw [if_pos number, positionArg_val]
      exact if_neg (by simp [absent])
    · next hpres =>
      have present : (s.config (stationOf p)).present = true := by simpa using hpres
      have kind : seatKind p = if p.val % 2 = 0 then .wheel else .dresser := rfl
      split
      · next hx => exact State.mount_refused number present (by simp [State.refuseMount, hx])
      · next x hx =>
        rw [← kind]
        have checks := State.refuseMount_eq (s := s.atWork) (p := p) hx
        rw [State.atWork_position] at checks
        split_ifs at checks ⊢
        · exact State.mount_refused number present checks
        · exact State.mount_refused number present checks
        · exact State.mount_refused number present checks
        · exact State.mount_refused number present checks
        · have work : s.atWork.mount p.val tool = (s.atWork.takeMount p tool).accept .ok := by
            rw [State.mount_checked (s := s.atWork) number present, checks]
          have link : (s.atWork.takeMount p tool).link = s.link.executing := s.atWork.takeMount_frame p tool .link (by decide)
          rw [serve_taken work link]
          exact ⟨takenOk_of (s.atWork.takeMount_frame p tool), s.atWork.takeMount_tool p hx,
            s.atWork.takeMount_positions p tool, s.atWork.takeMount_monitors p tool⟩

end Sys2Proof.Machine
end

section
/-! SET_STATION: the record written clamped, and the presence it moves (R45, R46). -/

namespace Sys2Proof.Machine

theorem presentArg_of_le {n : Nat} (h : n ≤ 1) : presentArg n = some (decide (n = 1)) := by
  obtain rfl | rfl : n = 0 ∨ n = 1 := by omega
  · rfl
  · rfl

theorem presentArg_of_gt {n : Nat} (h : 1 < n) : presentArg n = none := by
  unfold presentArg
  split <;> first | omega | rfl

theorem faultActionArg_of_le {n : Nat} (h : n ≤ 1) : faultActionArg n = some (if n = 0 then .hold else .degrade) := by
  obtain rfl | rfl : n = 0 ∨ n = 1 := by omega
  · rfl
  · rfl

theorem faultActionArg_of_gt {n : Nat} (h : 1 < n) : faultActionArg n = none := by
  unfold faultActionArg
  split <;> first | omega | rfl

/-- The record that SET_STATION writes has its values at the nearest end of their ranges (R44, R45). -/
theorem newConfig_record (present : Bool) (eMin blank air stale : Nat) (action : FaultAction) (timeout : Nat) :
    (newConfig present eMin blank air stale action timeout).1 = ⟨present, max 1 (min 1048575 eMin), min 255 blank,
      max 1 (min 15 air), max 200 (min 10000 stale), action, max 10 (min 3600 timeout)⟩ := by
  simp only [newConfig, setting_value, Nat.reduceLeDiff, Nat.zero_max]

/-- SET_STATION answers ADJUSTED exactly when a value was outside its range (R45). -/
theorem newConfig_taken (present : Bool) (eMin blank air stale : Nat) (action : FaultAction) (timeout : Nat) :
    taken (newConfig present eMin blank air stale action timeout).2 =
      if eMin = 0 ∨ 1048575 < eMin ∨ 255 < blank ∨ air = 0 ∨ 15 < air ∨ stale < 200 ∨ 10000 < stale ∨ timeout < 10 ∨
        3600 < timeout then .adjusted else .ok := by
  unfold taken newConfig
  simp only [Bool.or_eq_true, setting_clamped]
  congr 1
  simp only [eq_iff_iff]
  omega

namespace State

variable {s : State}

theorem setStation_refused {station present eMin blank air stale action timeout : Nat}
    (h : 5 < station ∨ 1 < present ∨ 1 < action) :
    s.setStation station present eMin blank air stale action timeout = s.refuse .badValue := by
  unfold setStation
  rcases h with h | h | h
  · rw [stationArg_of_gt h]
  · rw [presentArg_of_gt h]; cases stationArg station <;> rfl
  · rw [faultActionArg_of_gt h]; cases stationArg station <;> cases presentArg present <;> rfl

/-- The state with the configuration record of a station written, in a commit of it (R22, R45). -/
def configured (s : State) (st : Fin 6) (c : StationConfig) : State := (s.commit [.config st (s.config st)]).setConfig st c

theorem configured_frame (s : State) (st : Fin 6) (c : StationConfig) : onlyChanges [.journal, .configs] s (s.configured st c) :=
  fun y hy => by cases y <;> first | rfl | simp at hy

/-- SET_STATION with its identifiers and enumerations in range: BUSY, or the record and the move of the presence (R45, R46). -/
theorem setStation_checked (s : State) (st : Fin 6) {present action : Nat} (hp : present ≤ 1) (ha : action ≤ 1)
    (eMin blank air stale timeout : Nat) : s.setStation st.val present eMin blank air stale action timeout =
      if present = 0 ∧ ((s.position (wheelPos st)).state ≠ .empty ∨ (s.position (dresserPos st)).state ≠ .empty) then
        s.refuse .busy
      else
        ((s.configured st (newConfig (decide (present = 1)) eMin blank air stale (if action = 0 then .hold else .degrade)
          timeout).1).movePresence st (s.config st).present (decide (present = 1))).accept
          (taken (newConfig (decide (present = 1)) eMin blank air stale (if action = 0 then .hold else .degrade) timeout).2) := by
  have absent : decide (present = 1) = false ↔ present = 0 := by rw [decide_eq_false_iff_not]; omega
  unfold setStation configured
  rw [stationArg_val, presentArg_of_le hp, faultActionArg_of_le ha]
  simp only [absent]

/-- A move of the presence writes the monitor, the ring, the incident and the flags of the station alone (R46). -/
theorem movePresence_frame (s : State) (st : Fin 6) (was is : Bool) :
    onlyChanges [.monitors, .captures, .incidents, .flags] s (s.movePresence st was is) := by
  intro y hy
  cases was <;> cases is <;> cases y <;> first | rfl | simp at hy

/-- A station made present (R46). -/
theorem movePresence_present (s : State) (st : Fin 6) : s.movePresence st false true =
    ((s.setMonitor st (monitorAfterReset .settling)).setCapture st ⟨[], 0, .none, none, 0⟩).setFlag st
      { s.flag st with startup := true } := rfl

/-- A station made absent (R46, R105, R109). -/
theorem movePresence_absent (s : State) (st : Fin 6) : s.movePresence st true false =
    (((s.setMonitor st (monitorAfterReset .off)).setCapture st ⟨[], 0, .none, none, 0⟩).setIncident st
      ⟨false, none, none, 0, none, none, 0, 0, 0, false⟩).setFlag st ⟨false, false, false⟩ := rfl

theorem movePresence_present_incidents (s : State) (st : Fin 6) : (s.movePresence st false true).incidents = s.incidents := rfl

theorem movePresence_same (s : State) (st : Fin 6) (b : Bool) : s.movePresence st b b = s := by cases b <;> rfl

end State

/-- Settles O39: the record is the clamped one, and each of the three moves of the presence writes its own blocks. -/
theorem setStationWritesTheRecord : Obligations.SetStationWritesTheRecord := by
  intro s station present eMin blank air stale action timeout hp
  refine ⟨_, congrArg Host.Outcome.next (State.request_of_powered hp _), fun bad => refused_of (State.setStation_refused bad), ?_⟩
  rintro st rfl hpresent haction
  have checked := State.setStation_checked s.atWork st hpresent haction eMin blank air stale timeout
  rw [State.atWork_position, State.atWork_position, State.atWork_config, newConfig_record, newConfig_taken] at checked
  split
  · next busy => exact refused_of (checked.trans (if_pos busy))
  · next free =>
    rw [if_neg free] at checked
    generalize hc : (⟨decide (present = 1), max 1 (min 1048575 eMin), min 255 blank, max 1 (min 15 air),
      max 200 (min 10000 stale), if action = 0 then .hold else .degrade, max 10 (min 3600 timeout)⟩ : StationConfig) = c at checked ⊢
    have moved := (s.atWork.configured st c).movePresence_frame st (s.config st).present (decide (present = 1))
    have configured := s.atWork.configured_frame st c
    have frame : onlyChanges [.journal, .configs, .monitors, .captures, .incidents, .flags] s.atWork _ :=
      onlyChanges_trans (onlyChanges_mono configured (by decide)) (onlyChanges_mono moved (by decide))
    have configs : _ = s.configs.set st c := moved .configs (by decide)
    rw [serve_taken (work := fun u => u.setStation st.val present eMin blank air stale action timeout) checked
      (frame .link (by decide))]
    refine ⟨takenOk_of frame, ?_,
      fun same => ?_, fun is was => ?_, fun is was => ?_⟩
    · rw [State.withLink_configs, configs]
      exact oneBecomes_set _ _ _
    · rw [same, State.movePresence_same]
      exact onlyChanges_withLink configured
    · rw [was, decide_eq_true is, State.withLink_incidents, State.movePresence_present_incidents, State.movePresence_present]
      exact ⟨oneBecomes_set _ _ _, oneBecomes_set _ _ _, configured .incidents (by decide), oneBecomes_set _ _ _⟩
    · rw [was, decide_eq_false (by omega), State.movePresence_absent]
      exact ⟨oneBecomes_set _ _ _, oneBecomes_set _ _ _, oneBecomes_set _ _ _, oneBecomes_set _ _ _⟩

end Sys2Proof.Machine
end

section
/-! READ_STATION: the 84 bytes of Table 10-9 as runs of fields around the latched record of the operation (R47, R178). -/

namespace Sys2Proof.Machine

/-! ### A run of fields within a body -/

theorem field_append {a b : List Byte} {start count : Nat} (h : start + count ≤ a.length) :
    field (a ++ b) start count = field a start count := by
  unfold field
  rw [List.drop_append_of_le_length (by omega), List.take_append_of_le_length (by rw [List.length_drop]; omega)]

theorem offsets_le {start : Nat} {l : List (Nat × Nat)} {x : Nat × Nat × Nat} (h : x ∈ offsets start l) :
    x.1 + x.2.1 ≤ start + (l.map Prod.fst).sum := by
  induction l generalizing start with
  | nil => cases h
  | cons e rest ih =>
    rw [List.map_cons, List.sum_cons]
    rcases List.mem_cons.1 h with rfl | h
    · dsimp only; omega
    · have := ih h; omega

/-- A body holds the fields of a run that stands between other bytes. -/
theorem bodyHolds_between {before after : List Byte} {l : List (Nat × Nat)} {start : Nat} (h : before.length = start) :
    bodyHolds (before ++ (layout l ++ after)) (offsets start l) := by
  subst h
  intro x hx
  have inside : x.1 + x.2.1 ≤ (before ++ layout l).length := by
    rw [List.length_append, length_layout]; exact offsets_le hx
  rw [← List.append_assoc, field_append inside]
  exact field_layout l before x hx

/-! ### The parts of Table 10-9 -/

theorem flagCode_pair (a b : Bool) : 2 * flagCode a + flagCode b = (if a then 2 else 0) + if b then 1 else 0 := by
  cases a <;> cases b <;> rfl

/-- Bytes 0 to 14 of Table 10-9. -/
def State.stationHead (s : State) (st : Fin 6) : List (Nat × Nat) :=
  let c := s.config st
  [(1, st.val), (1, flagCode c.present), (4, c.eMin), (1, c.blank), (1, c.airLimit), (2, c.staleWindow), (1, c.action.code),
    (2, c.swapTimeout), (1, (s.monitor st).state.code), (1, linesBits (s.monitor st).filtered)]

/-- The seven bytes of a position in Table 10-9. -/
def Position.layout (x : Position) : List (Nat × Nat) := [(1, x.state.code), (1, x.active), (1, x.sister), (4, x.timer)]

/-- Bytes 38 to 83 of Table 10-9. -/
def State.stationTail (s : State) (st : Fin 6) : List (Nat × Nat) :=
  let m := s.monitor st
  let i := s.incident st
  [(4, m.energy), (1, flagCode m.powerFaultMark), (4, m.sampleCount), (1, m.blanking), (1, m.burstCounter),
    (1, 2 * flagCode m.power.fault + flagCode m.ae.fault), (1, m.air), (2, s.holdReasonBits st), (1, flagCode i.isOpen),
    (1, (i.cls.map DetClass.code).getD 0), (1, (i.response.map Response.code).getD 0), (1, i.tool),
    (1, (i.posKind.map Kind.code).getD 0), (1, classCode i.passClass), (2, i.value), (4, i.time), (1, i.repeats),
    (1, flagCode i.otherTool), (1, (s.capture st).state.code), (2, (s.capture st).samples.length)] ++
    ((s.position (wheelPos st)).layout ++ (s.position (dresserPos st)).layout)

theorem State.stationBytes_eq (s : State) (st : Fin 6) : s.stationBytes st =
    layout (s.stationHead st) ++ (opBytes (s.monitor st).op ++ layout (s.stationTail st)) := by
  unfold stationBytes StationConfig.bytes Monitor.counterBytes Incident.bytes Position.bytes stationHead stationTail
    Position.layout layout
  generalize be = bytes
  simp only [List.flatMap_append, List.flatMap_cons, List.flatMap_nil, List.append_assoc, List.append_nil]

/-- Bytes 15 to 25 of Table 10-9: what the start of every operation latches. -/
def Latched.layout (l : Latched) : List (Nat × Nat) :=
  [(1, l.kind.code), (1, classCode l.passClass), (1, l.wheel), (1, l.dresser), (4, l.eMin), (1, l.blank), (2, l.staleWindow)]

/-- Bytes 26 to 28 of Table 10-9. -/
def Latched.checkBytes (l : Latched) : List Byte :=
  latchedBytes true 26 3 (l.check.map fun c => be 2 c.threshold ++ be 1 c.persistence)

/-- Bytes 29 to 34 of Table 10-9. -/
def Latched.judgeBytes (l : Latched) : List Byte :=
  latchedBytes (l.kind == .pass) 29 6
    (l.judge.map fun j => be 1 j.learnCount ++ be 1 j.shift ++ be 2 j.lowBound ++ be 2 j.highBound)

/-- Byte 35 of Table 10-9. -/
def Latched.depthBytes (l : Latched) : List Byte := latchedBytes (l.kind == .dress) 35 1 (l.depth.map (be 1))

/-- Byte 36 of Table 10-9. -/
def Latched.nominalBytes (l : Latched) : List Byte := latchedBytes (l.kind == .dress) 36 1 (l.nominal.map (be 1))

theorem opBytes_some (l : Latched) : opBytes (some l) = Machine.layout l.layout ++ (l.checkBytes ++ (l.judgeBytes ++
    (l.depthBytes ++ (l.nominalBytes ++ Machine.layout [(1, 2 * flagCode l.void + flagCode l.wheelVoid)])))) := by
  unfold opBytes Latched.checkBytes Latched.judgeBytes Latched.depthBytes Latched.nominalBytes Latched.layout layout
  generalize be = bytes
  simp only [List.flatMap_cons, List.flatMap_nil, List.append_assoc, List.append_nil]

theorem opBytes_none : opBytes none = layout [(2, 0xFFFF), (10, 0), (11, 0)] := by decide

theorem length_latchedBytes {belongs : Bool} {at' len : Nat} {bytes : Option (List Byte)}
    (h : ∀ b, bytes = some b → b.length = len) : (latchedBytes belongs at' len bytes).length = len := by
  unfold latchedBytes
  split
  · exact h _ rfl
  · cases belongs <;> simp

theorem Latched.length_checkBytes (l : Latched) : l.checkBytes.length = 3 :=
  length_latchedBytes fun b hb => by
    obtain ⟨k, _, rfl⟩ := Option.map_eq_some_iff.1 hb
    simp [length_be]

theorem Latched.length_judgeBytes (l : Latched) : l.judgeBytes.length = 6 :=
  length_latchedBytes fun b hb => by
    obtain ⟨j, _, rfl⟩ := Option.map_eq_some_iff.1 hb
    simp [length_be]

theorem Latched.length_depthBytes (l : Latched) : l.depthBytes.length = 1 :=
  length_latchedBytes fun b hb => by
    obtain ⟨j, _, rfl⟩ := Option.map_eq_some_iff.1 hb
    exact length_be 1 j

theorem Latched.length_nominalBytes (l : Latched) : l.nominalBytes.length = 1 :=
  length_latchedBytes fun b hb => by
    obtain ⟨j, _, rfl⟩ := Option.map_eq_some_iff.1 hb
    exact length_be 1 j

theorem length_opBytes (o : Option Latched) : (opBytes o).length = 23 := by
  cases o with
  | none => rfl
  | some l =>
    simp [opBytes_some, length_layout, Latched.layout, l.length_checkBytes, l.length_judgeBytes, l.length_depthBytes,
      l.length_nominalBytes]

theorem State.length_stationHead (s : State) (st : Fin 6) : (layout (s.stationHead st)).length = 15 := by
  simp [length_layout, stationHead]

theorem State.length_stationBytes (s : State) (st : Fin 6) : (s.stationBytes st).length = 84 := by
  rw [stationBytes_eq, List.length_append, List.length_append, length_stationHead, length_opBytes, length_layout]
  simp [stationTail, Position.layout]

/-! ### What the body holds -/

namespace State

variable (s : State) (st : Fin 6)

/-- The body holds the configuration, the monitor's state and its lines. -/
theorem stationBytes_head : bodyHolds (s.stationBytes st) (offsets 0 (s.stationHead st)) := by
  rw [stationBytes_eq]
  exact bodyHolds_between (before := []) rfl

/-- The body holds the counters, the hold reasons, the incident, the capture and the two positions. -/
theorem stationBytes_tail : bodyHolds (s.stationBytes st) (offsets 38 (s.stationTail st)) := by
  have between := bodyHolds_between (before := layout (s.stationHead st) ++ opBytes (s.monitor st).op) (after := [])
    (l := s.stationTail st) (start := 38) (by rw [List.length_append, length_stationHead, length_opBytes])
  rwa [List.append_nil, List.append_assoc, ← stationBytes_eq] at between

variable {s st}

/-- The body holds a run of fields within the latched record. -/
theorem stationBytes_op {before after : List Byte} {l : List (Nat × Nat)} {start : Nat}
    (h : opBytes (s.monitor st).op = before ++ (layout l ++ after)) (hs : 15 + before.length = start) :
    bodyHolds (s.stationBytes st) (offsets start l) := by
  have between := bodyHolds_between (before := layout (s.stationHead st) ++ before) (after := after ++ layout (s.stationTail st))
    (l := l) (start := start) (by rw [List.length_append, length_stationHead, hs])
  rw [stationBytes_eq, h]
  simpa only [List.append_assoc] using between

variable {l : Latched} (hop : (s.monitor st).op = some l)
include hop

theorem stationBytes_latched : bodyHolds (s.stationBytes st) (offsets 15 l.layout) :=
  stationBytes_op (before := []) (by rw [hop, opBytes_some]; rfl) rfl

theorem stationBytes_voids :
    bodyHolds (s.stationBytes st) (offsets 37 [(1, 2 * flagCode l.void + flagCode l.wheelVoid)]) :=
  stationBytes_op (before := layout l.layout ++ (l.checkBytes ++ (l.judgeBytes ++ (l.depthBytes ++ l.nominalBytes))))
    (after := []) (by rw [hop, opBytes_some]; simp only [List.append_assoc, List.append_nil])
    (by simp [length_layout, Latched.layout, l.length_checkBytes, l.length_judgeBytes, l.length_depthBytes,
      l.length_nominalBytes])

theorem stationBytes_check {fields : List (Nat × Nat)} (h : l.checkBytes = layout fields) :
    bodyHolds (s.stationBytes st) (offsets 26 fields) :=
  stationBytes_op (before := layout l.layout) (by rw [hop, opBytes_some, h]) (by simp [length_layout, Latched.layout])

theorem stationBytes_judge {fields : List (Nat × Nat)} (h : l.judgeBytes = layout fields) :
    bodyHolds (s.stationBytes st) (offsets 29 fields) :=
  stationBytes_op (before := layout l.layout ++ l.checkBytes)
    (by rw [hop, opBytes_some, h]; simp only [List.append_assoc]; rfl)
    (by simp [length_layout, Latched.layout, l.length_checkBytes])

theorem stationBytes_depth {fields : List (Nat × Nat)} {after : List Byte}
    (h : l.depthBytes ++ l.nominalBytes = layout fields ++ after) : bodyHolds (s.stationBytes st) (offsets 35 fields) := by
  refine stationBytes_op (before := layout l.layout ++ (l.checkBytes ++ l.judgeBytes))
    (after := after ++ layout [(1, 2 * flagCode l.void + flagCode l.wheelVoid)]) ?_ ?_
  · rw [hop, opBytes_some, ← List.append_assoc l.depthBytes, h]
    simp only [List.append_assoc]
  · simp [length_layout, Latched.layout, l.length_checkBytes, l.length_judgeBytes]

theorem stationBytes_nominal {fields : List (Nat × Nat)} (h : l.nominalBytes = layout fields) :
    bodyHolds (s.stationBytes st) (offsets 36 fields) :=
  stationBytes_op (before := layout l.layout ++ (l.checkBytes ++ (l.judgeBytes ++ l.depthBytes)))
    (by rw [hop, opBytes_some, h]; simp only [List.append_assoc]; rfl)
    (by simp [length_layout, Latched.layout, l.length_checkBytes, l.length_judgeBytes, l.length_depthBytes])

end State

theorem bodyHolds_append {body : List Byte} {a b : List (Nat × Nat × Nat)} (ha : bodyHolds body a) (hb : bodyHolds body b) :
    bodyHolds body (a ++ b) := fun x hx => (List.mem_append.1 hx).elim (ha x) (hb x)

/-- Settles O40: the body is its runs of fields, and a latched field is one of them where the start latched it. -/
theorem readStationReturnsTheRecord : Obligations.ReadStationReturnsTheRecord := by
  intro s station hp
  refine ⟨_, congrArg Host.Outcome.next (State.request_of_powered hp _), fun far => ?_, ?_⟩
  · refine refused_of ?_
    unfold State.readStation
    rw [stationArg_of_gt far]
  · rintro st rfl
    have work : s.atWork.readStation st.val = ⟨s.atWork, .ok, s.stationBytes st⟩ := by
      unfold State.readStation
      rw [stationArg_val]
      rfl
    have alone : onlyChanges [.journal] s.atWork s.atWork := s.atWork.onlyChanges_refl _
    rw [serve_taken (t := s.atWork) work rfl]
    refine ⟨s.stationBytes st, rfl, onlyChanges_withLink (parts := []) alone, s.length_stationBytes st, ?_⟩
    rintro c m i w d rfl rfl rfl rfl rfl
    refine ⟨?_, fun hop => ?_, fun l hop => ⟨?_, fun k hk => ?_, fun j hj => ?_, fun hk hj => ?_, fun x hx => ?_, fun x hx => ?_,
      fun hk hd hn => ?_⟩⟩
    · rw [← flagCode_pair]
      exact bodyHolds_append (s.stationBytes_head st) (s.stationBytes_tail st)
    · exact State.stationBytes_op (before := []) (after := []) (l := [(2, 0xFFFF), (10, 0), (11, 0)])
        (by rw [hop, opBytes_none, List.append_nil]; rfl) rfl
    · rw [← flagCode_pair]
      exact bodyHolds_append (State.stationBytes_latched hop) (State.stationBytes_voids hop)
    · exact State.stationBytes_check hop (fields := [(2, k.threshold), (1, k.persistence)])
        (by simp [Latched.checkBytes, hk, latchedBytes, layout])
    · exact State.stationBytes_judge hop (fields := [(1, j.learnCount), (1, j.shift), (2, j.lowBound), (2, j.highBound)])
        (by simp [Latched.judgeBytes, hj, latchedBytes, layout])
    · exact State.stationBytes_judge hop (fields := [(6, 0)]) (by rw [Latched.judgeBytes, hj, hk]; decide)
    · exact State.stationBytes_depth hop (fields := [(1, x)]) (after := l.nominalBytes)
        (by simp [Latched.depthBytes, hx, latchedBytes, layout])
    · exact State.stationBytes_nominal hop (fields := [(1, x)]) (by simp [Latched.nominalBytes, hx, latchedBytes, layout])
    · exact State.stationBytes_depth hop (fields := [(2, 0)]) (after := [])
        (by rw [Latched.depthBytes, Latched.nominalBytes, hd, hn, hk]; decide)

end Sys2Proof.Machine
end

section
/-! The latch of a channel fault: when a channel is found stuck, and what the latch writes (R90, R100, R101). -/

namespace Sys2Proof.Machine

/-! ### When a channel is stuck -/

theorem Monitor.operating_iff (m : Monitor) : m.operating = true ↔ m.state = .pass ∨ m.state = .dress := by
  simp [operating]

theorem Latched.live_iff (l : Latched) : l.live = true ↔ l.tool ≠ 0 := by
  unfold live tool
  cases l.kind <;> exact decide_eq_true_iff

/-- The last sample gave its codes to the stuck check: a live operation past its first B (R29, R41, R99). -/
theorem Monitor.stuckChecked_iff (m : Monitor) : m.stuckChecked = true ↔
    ∃ l, m.op = some l ∧ (m.state = .pass ∨ m.state = .dress) ∧ l.tool ≠ 0 ∧ l.blank < m.sampleCount := by
  unfold stuckChecked
  cases m.op with
  | none => simp
  | some l => simp [operating_iff, Latched.live_iff, and_assoc]

/-- The channel of an operation is stuck when its counter has reached the stale window (R100). -/
theorem Monitor.stuckOn_eq {m : Monitor} {l : Latched} (hop : m.op = some l) (hm : m.state = .pass ∨ m.state = .dress)
    (c : Channel) : m.stuckOn c =
      if (m.channel c).fault = false ∧ 0 < (m.channel c).stuck ∧ l.staleWindow ≤ (m.channel c).stuck then
        (m.channel c).previous
      else none := by
  unfold stuckOn
  rw [hop, m.operating_iff.2 hm]

/-! ### What the latch writes -/

namespace State

variable (s : State)

/-- The station's answer to a channel fault found on a code: SENSOR and an urgent notice under HOLD, a routine notice under
DEGRADE (R101). -/
def faultAnswered (st : Fin 6) (c : Channel) (code : Code) : State :=
  (s.setFlag st (if (s.config st).action = .hold then { s.flag st with sensor := true } else s.flag st)).notify
    (decide ((s.config st).action = .hold)) .sensorFault (some st) none 0 code.toNat (channelCode c)

theorem setFlag_flag_self (st : Fin 6) : s.setFlag st (s.flag st) = s := by
  have same : s.flags.set st (s.flag st) = s.flags := Vector.set_getElem_self st.isLt
  exact congrArg s.withFlags same

variable {s}

theorem takeChannelFault_of_none {st : Fin 6} {c : Channel} (h : (s.monitor st).stuckOn c = none) :
    s.takeChannelFault st c = s := by
  unfold takeChannelFault
  dsimp only
  rw [h]

theorem takeChannelFault_of_some {st : Fin 6} {c : Channel} {code : Code} (h : (s.monitor st).stuckOn c = some code) :
    s.takeChannelFault st c = (s.setMonitor st ((s.monitor st).latchFault c)).faultAnswered st c code := by
  unfold takeChannelFault faultAnswered
  dsimp only
  rw [h, setMonitor_config, setMonitor_flag]
  cases ha : (s.config st).action
  · rfl
  · have kept := (s.setMonitor st ((s.monitor st).latchFault c)).setFlag_flag_self st
    rw [setMonitor_flag] at kept
    rw [if_neg (by decide), kept]
    simp

theorem faultAnswered_frame (s : State) (st : Fin 6) (c : Channel) (code : Code) :
    onlyChanges [.flags, .notices] s (s.faultAnswered st c code) := fun y hy => by
  cases y <;> first | rfl | simp at hy

theorem faultAnswered_flags (s : State) (st : Fin 6) (c : Channel) (code : Code) : (s.faultAnswered st c code).flags =
    s.flags.set st (if (s.config st).action = .hold then { s.flag st with sensor := true } else s.flag st) := rfl

/-- CHANNEL_FAULT_LATCH where the fault is not due (log entry 8). -/
theorem channelFaultLatch_stands {st : Fin 6} {c : Channel} (h : ∀ l, (s.monitor st).op = some l →
    ((s.monitor st).state = .pass ∨ (s.monitor st).state = .dress) → l.tool ≠ 0 → l.blank < (s.monitor st).sampleCount →
    ¬(((s.monitor st).channel c).fault = false ∧ 0 < ((s.monitor st).channel c).stuck ∧
      l.staleWindow ≤ ((s.monitor st).channel c).stuck)) : s.channelFaultLatch st c = s := by
  unfold channelFaultLatch
  split
  · next checked =>
    obtain ⟨l, hop, hm, hn, hb⟩ := (s.monitor st).stuckChecked_iff.1 checked
    exact takeChannelFault_of_none ((Monitor.stuckOn_eq hop hm c).trans (if_neg (h l hop hm hn hb)))
  · rfl

/-- CHANNEL_FAULT_LATCH where the fault is due (R100, R101). -/
theorem channelFaultLatch_latches {st : Fin 6} {c : Channel} {l : Latched} {code : Code} (hop : (s.monitor st).op = some l)
    (hm : (s.monitor st).state = .pass ∨ (s.monitor st).state = .dress) (hn : l.tool ≠ 0)
    (hb : l.blank < (s.monitor st).sampleCount)
    (hx : ((s.monitor st).channel c).fault = false ∧ 0 < ((s.monitor st).channel c).stuck ∧
      l.staleWindow ≤ ((s.monitor st).channel c).stuck) (hcode : ((s.monitor st).channel c).previous = some code) :
    s.channelFaultLatch st c = (s.setMonitor st ((s.monitor st).latchFault c)).faultAnswered st c code := by
  have checked := (s.monitor st).stuckChecked_iff.2 ⟨l, hop, hm, hn, hb⟩
  refine (if_pos checked).trans (takeChannelFault_of_some ?_)
  rw [Monitor.stuckOn_eq hop hm c, if_pos hx, hcode]

end State

/-- The power latch sets the power-fault mark of a pass (R30, R90). -/
theorem Monitor.latchFault_power (m : Monitor) : m.latchFault .power =
    { m with power := ⟨none, 0, true⟩, powerFaultMark := m.powerFaultMark || m.state == .pass } := by
  have mark : (if m.state = .pass then true else m.powerFaultMark) = (m.powerFaultMark || m.state == .pass) := by
    split
    · next h => simp [h]
    · next h => simp [h]
  rw [← mark]
  rfl

/-- Settles O20: the bare latch acts exactly where it is due, with the writes of the shared operation. -/
theorem channelFaultLatches : Obligations.ChannelFaultLatches := by
  rintro s st c m x due hp rfl hx hdue
  have channel : x = (s.monitor st).channel c := by rw [hx]; cases c <;> rfl
  subst channel
  refine ⟨_, congrArg Host.Outcome.next (State.event_of_powered hp _), fun hnot => ?_, fun code yes hcode => ?_⟩
  · have stands : (s.withJournal []).channelFaultLatch st c = s.withJournal [] :=
      State.channelFaultLatch_stands fun l hop hm hn hb hs => hnot (hdue.2 ⟨l, hop, hm, hn, hb, hs⟩)
    rw [stands]
    intro y hy
    cases y <;> first | rfl | simp at hy
  · obtain ⟨l, hop, hm, hn, hb, hs⟩ := hdue.1 yes
    rw [State.channelFaultLatch_latches (s := s.withJournal []) hop hm hn hb hs hcode]
    refine ⟨?_, ?_, oneBecomes_set _ _ _, ?_⟩
    · cases c with
      | power =>
        dsimp only
        rw [← Monitor.latchFault_power]
        exact oneBecomes_set _ _ _
      | ae => exact oneBecomes_set _ _ _
    · intro y hy
      cases y <;> first | rfl | simp at hy
    · cases c <;> rfl

end Sys2Proof.Machine
end

section
/-! The work of the blocks reads of the monitors the AIR counter and the operation that ends alone, and nothing of the
journal: from states that differ there it does the same. -/

namespace Sys2Proof.Machine

/-- The state with other monitors and another journal. -/
def State.over (s : State) (m : Vector Monitor 6) (k : List Commit) : State := (s.withMonitors m).withJournal k

/-- `t` is `s` but for the monitors and the older commits: these are `j` in `s` and `j'` in `t`, and the newer ones are
the same. -/
def Alike (j j' : List Commit) (s t : State) : Prop := ∃ m k, s.journal = k ++ j ∧ t = s.over m (k ++ j')

namespace State

variable (s : State) (m : Vector Monitor 6) (k : List Commit)

theorem over_modifyTool (n : Nat) (f : Tool → Tool) : (s.over m k).modifyTool n f = (s.modifyTool n f).over m k := by
  unfold modifyTool
  rw [show (s.over m k).tool? n = s.tool? n from rfl]
  cases s.tool? n <;> rfl

theorem over_modifyGroup (n : Nat) (f : Group → Group) : (s.over m k).modifyGroup n f = (s.modifyGroup n f).over m k := by
  unfold modifyGroup
  rw [show (s.over m k).group? n = s.group? n from rfl]
  cases s.group? n <;> rfl

theorem over_leaveWaiting (p : Fin 12) : (s.over m k).leaveWaiting p = (s.leaveWaiting p).over m k := by
  unfold leaveWaiting
  rw [show (s.over m k).position p = s.position p from rfl, show (s.over m k).tool? = s.tool? from rfl]
  cases s.tool? (s.position p).active
  · rfl
  · exact over_modifyGroup ..

theorem over_backToServing (p : Fin 12) : (s.over m k).backToServing p = (s.backToServing p).over m k := by
  unfold backToServing
  rw [over_leaveWaiting]
  rfl

theorem over_crossingNotice (n : Nat) (old : Condition) (t : Tool) :
    (s.over m k).crossingNotice n old t = (s.crossingNotice n old t).over m k := by
  unfold crossingNotice
  split_ifs <;> rfl

theorem over_learnStep (st : Fin 6) (e : PassEnd) (t : Tool) :
    (s.over m k).learnStep st e t = (s.learnStep st e t).over m k := by
  unfold learnStep
  dsimp only
  split <;> rfl

theorem over_moveReference (st : Fin 6) (e : PassEnd) (t : Tool) :
    (s.over m k).moveReference st e t = (s.moveReference st e t).over m k := by
  unfold moveReference
  rw [show (s.over m k).incident st = s.incident st from rfl]
  split
  · rfl
  · split
    · exact over_learnStep ..
    all_goals rfl

end State

namespace Alike

variable {j j' : List Commit} {s t : State}

theorem refl (s : State) : Alike s.journal s.journal s s := ⟨s.monitors, [], rfl, rfl⟩

/-- Parts that are neither the monitors nor the journal are the same. -/
theorem same (h : Alike j j' s t) {x : Part} (hm : x ≠ .monitors) (hj : x ≠ .journal) : x.same s t := by
  obtain ⟨m, k, _, rfl⟩ := h
  cases x <;> first | rfl | exact absurd rfl hm | exact absurd rfl hj

theorem frame (h : Alike j j' s t) : onlyChanges [.monitors, .journal] s t := fun x hx => by
  simp only [List.mem_cons, List.not_mem_nil, or_false, not_or] at hx
  exact h.same hx.1 hx.2

theorem frame_monitors (h : Alike j j s t) : onlyChanges [.monitors] s t := fun x hx => by
  by_cases hj : x = .journal
  · subst hj
    obtain ⟨m, k, hk, rfl⟩ := h
    exact hk.symm
  · exact h.same (by simpa using hx) hj

theorem toolGet (h : Alike j j' s t) (n : Nat) : t.tool? n = s.tool? n := by obtain ⟨m, k, _, rfl⟩ := h; rfl
theorem groupOf (h : Alike j j' s t) (x : Tool) : t.groupOf x = s.groupOf x := by obtain ⟨m, k, _, rfl⟩ := h; rfl
theorem config (h : Alike j j' s t) (st : Fin 6) : t.config st = s.config st := by obtain ⟨m, k, _, rfl⟩ := h; rfl
theorem incident (h : Alike j j' s t) (st : Fin 6) : t.incident st = s.incident st := by obtain ⟨m, k, _, rfl⟩ := h; rfl
theorem position (h : Alike j j' s t) (p : Fin 12) : t.position p = s.position p := by obtain ⟨m, k, _, rfl⟩ := h; rfl
theorem scan (h : Alike j j' s t) (g : Group) : t.scan g = s.scan g := by obtain ⟨m, k, _, rfl⟩ := h; rfl
theorem oldTool (h : Alike j j' s t) (n : Nat) : t.oldTool n = s.oldTool n := by obtain ⟨m, k, _, rfl⟩ := h; rfl
theorem responseTo (h : Alike j j' s t) (d : Detection) : t.responseTo d = s.responseTo d := by
  obtain ⟨m, k, _, rfl⟩ := h; rfl

/-- Monitors are free on either side. -/
theorem withMonitors (h : Alike j j' s t) (v w : Vector Monitor 6) : Alike j j' (s.withMonitors v) (t.withMonitors w) := by
  obtain ⟨m, k, hk, rfl⟩ := h
  exact ⟨w, k, hk, rfl⟩

/-- The later monitors are free. -/
theorem withMonitors_right (h : Alike j j' s t) (w : Vector Monitor 6) : Alike j j' s (t.withMonitors w) := by
  obtain ⟨m, k, hk, rfl⟩ := h
  exact ⟨w, k, hk, rfl⟩

/-- The same commit on both sides. -/
theorem commit (h : Alike j j' s t) (ws : List RetainedWrite) : Alike j j' (s.commit ws) (t.commit ws) := by
  obtain ⟨m, k, hk, rfl⟩ := h
  refine ⟨m, ws :: k, ?_, rfl⟩
  rw [State.commit_eq, State.withJournal_journal, hk]
  rfl

/-- An operation that neither reads nor writes the monitors and the journal. -/
theorem map (h : Alike j j' s t) (f : State → State) (hf : ∀ u m k, f (State.over u m k) = (f u).over m k) :
    Alike j j' (f s) (f t) := by
  obtain ⟨m, k, hk, rfl⟩ := h
  have stands := hf s s.monitors s.journal
  have journal : (f s).journal = s.journal := by
    have read := congrArg State.journal stands
    exact read
  exact ⟨m, k, journal.trans hk, hf s m _⟩

/-! ### The swap controller and the sister selector -/

theorem giveSister (h : Alike j j' s t) (p : Fin 12) (gno : Nat) (g : Group) (i : Nat) :
    Alike j j' (s.giveSister p gno g i) (t.giveSister p gno g i) := by
  obtain ⟨m, k, hk, rfl⟩ := h
  refine ⟨m, [s.oldTool (g.memberAt i), s.oldGroup gno] :: k, by rw [State.giveSister_journal, hk]; rfl, ?_⟩
  unfold State.giveSister
  dsimp only
  have committed : (s.over m (k ++ j')).commit [s.oldTool (g.memberAt i), s.oldGroup gno] =
      (s.commit [s.oldTool (g.memberAt i), s.oldGroup gno]).over m
        ([s.oldTool (g.memberAt i), s.oldGroup gno] :: (k ++ j')) := rfl
  rw [show (s.over m (k ++ j')).oldTool (g.memberAt i) = s.oldTool (g.memberAt i) from rfl,
    show (s.over m (k ++ j')).oldGroup gno = s.oldGroup gno from rfl, committed, State.over_modifyTool]
  rfl

theorem waitFor (h : Alike j j' s t) (p : Fin 12) (a : Nat) : Alike j j' (s.waitFor p a) (t.waitFor p a) :=
  h.map (fun u => u.waitFor p a) fun _ _ _ => rfl

theorem modifyTool (h : Alike j j' s t) (n : Nat) (f : Tool → Tool) : Alike j j' (s.modifyTool n f) (t.modifyTool n f) :=
  h.map (fun u => u.modifyTool n f) fun u m k => u.over_modifyTool m k n f

theorem joinAs (h : Alike j j' s t) (p : Fin 12) (gno : Nat) (x : PositionState) :
    Alike j j' (s.joinAs p gno x) (t.joinAs p gno x) :=
  (h.map (fun u => u.modifyGroup gno fun g => g.join p) fun u m k => u.over_modifyGroup m k gno _).map (fun u => u.rest p x)
    fun _ _ _ => rfl

theorem exhausted (h : Alike j j' s t) (p : Fin 12) (n : Nat) (x : Tool) (g : Group) :
    Alike j j' (s.exhausted p n x g) (t.exhausted p n x g) := by
  have worn : Alike j j'
      (if x.condition = .overrun then s
        else (s.commit [s.oldTool n]).modifyTool n fun t => { t with condition := .overrun })
      (if x.condition = .overrun then t
        else (t.commit [t.oldTool n]).modifyTool n fun t => { t with condition := .overrun }) := by
    split
    · exact h
    · rw [h.oldTool]
      exact (h.commit _).modifyTool n _
  rw [Moves.exhausted_eq, Moves.exhausted_eq]
  split
  · exact (worn.joinAs p x.group .runOn).map (fun u => u.notify _ _ _ _ _ _ _) fun _ _ _ => rfl
  · have joined := h.joinAs p x.group .waiting
    rw [joined.position]
    exact joined.map (fun u => u.notify _ _ _ _ _ _ _) fun _ _ _ => rfl

theorem selection (h : Alike j j' s t) (p : Fin 12) : Alike j j' (s.selection p) (t.selection p) := by
  unfold State.selection
  dsimp only
  rw [h.position, h.toolGet]
  split
  · exact h
  · rw [h.groupOf]
    split
    · exact h.waitFor p 0
    · rw [h.scan]
      split
      · exact h.giveSister ..
      · exact h.exhausted ..

theorem rescan (h : Alike j j' s t) (p : Fin 12) : Alike j j' (s.rescan p) (t.rescan p) := by
  unfold State.rescan
  rw [h.position, h.toolGet]
  split
  · exact h
  · rw [h.groupOf]
    split
    · exact h
    · rw [h.scan]
      split
      · exact h.giveSister ..
      · split
        · exact h
        · exact h.waitFor ..

theorem partEndAt (h : Alike j j' s t) (p : Fin 12) : Alike j j' (s.partEndAt p) (t.partEndAt p) := by
  unfold State.partEndAt
  rw [h.position]
  split
  · exact h.selection p
  · exact h.rescan p
  all_goals exact h

/-- A part end does the same from states alike. -/
theorem partEnd (h : Alike j j' s t) (st : Fin 6) : Alike j j' (s.partEnd st) (t.partEnd st) :=
  (h.partEndAt _).partEndAt _

theorem rest (h : Alike j j' s t) (p : Fin 12) (x : PositionState) : Alike j j' (s.rest p x) (t.rest p x) :=
  h.map (fun u => u.rest p x) fun _ _ _ => rfl

theorem regained (h : Alike j j' s t) (p : Fin 12) : Alike j j' (s.regained p) (t.regained p) := by
  have back : Alike j j' (s.backToServing p) (t.backToServing p) :=
    h.map (fun u => u.backToServing p) fun u m k => u.over_backToServing m k p
  unfold State.regained
  rw [h.position]
  split <;> first | exact back | exact h

theorem conditionReport (h : Alike j j' s t) (p : Fin 12) (old new : Condition) :
    Alike j j' (s.conditionReport p old new) (t.conditionReport p old new) := by
  unfold State.conditionReport
  rw [h.position]
  split
  · split
    · exact h.rest p .due
    · exact h
  · split <;> first | exact h.selection p | exact h
  · exact h
  · exact h
  all_goals
    split
    · exact h.regained p
    · exact h

theorem handOver (h : Alike j j' s t) (x : Placement) (old new : Condition) :
    Alike j j' (s.handOver x old new) (t.handOver x old new) := by
  unfold State.handOver
  split
  · exact h.conditionReport ..
  all_goals exact h

/-! ### Detections -/

theorem setTool (h : Alike j j' s t) (n : Nat) (x : Tool) : Alike j j' (s.setTool n x) (t.setTool n x) :=
  h.map (fun u => u.setTool n x) fun _ _ _ => rfl

theorem breakTool (h : Alike j j' s t) (n : Nat) : Alike j j' (s.breakTool n) (t.breakTool n) := by
  unfold State.breakTool
  rw [h.toolGet]
  split
  · exact h
  · split
    · exact h
    · exact (h.setTool n _).handOver ..

theorem openIncident (h : Alike j j' s t) (d : Detection) (r : Response) :
    Alike j j' (s.openIncident d r) (t.openIncident d r) :=
  h.map (fun u => u.openIncident d r) fun _ _ _ => rfl

theorem respond (h : Alike j j' s t) (d : Detection) : Alike j j' (s.respond d) (t.respond d) := by
  unfold State.respond
  rw [h.responseTo]
  split
  · exact h
  · exact h.map (fun u => u.notify _ _ _ _ _ _ _) fun _ _ _ => rfl
  · exact h.openIncident ..
  · exact (h.openIncident ..).breakTool _

/-- A detection is taken the same from states alike. -/
theorem takeDetection (h : Alike j j' s t) (d : Detection) : Alike j j' (s.takeDetection d) (t.takeDetection d) := by
  have tallied : Alike j j' (s.tally d) (t.tally d) := h.modifyTool d.tool _
  rw [State.takeDetection_eq, State.takeDetection_eq, State.answerDetection, State.answerDetection, tallied.incident]
  split
  · exact tallied.map (fun u => u.setIncident d.station _) fun _ _ _ => rfl
  · exact tallied.respond d

/-! ### The end of an operation -/

theorem recompute (h : Alike j j' s t) (n : Nat) : Alike j j' (s.recompute n) (t.recompute n) := by
  unfold State.recompute
  rw [h.toolGet]
  split
  · exact h
  · split
    · exact h
    · exact ((h.setTool n _).map (fun u => u.crossingNotice n _ _) fun u m k => u.over_crossingNotice m k n _ _).handOver ..

/-- One share of a dress: the commit, the record and its recompute. -/
theorem share (h : Alike j j' s t) (n : Nat) (f : Tool → Tool) :
    Alike j j' (((s.commit [s.oldTool n]).modifyTool n f).recompute n) (((t.commit [t.oldTool n]).modifyTool n f).recompute n) := by
  rw [h.oldTool]
  exact ((h.commit _).modifyTool n f).recompute n

theorem dressEnd (h : Alike j j' s t) (l : Latched) : Alike j j' (s.dressEnd l) (t.dressEnd l) := by
  unfold State.dressEnd
  dsimp only
  split
  · exact (h.share l.wheel _).share l.dresser _
  · exact h.share l.dresser _

theorem chargePass (h : Alike j j' s t) (n : Nat) (w : Option Nat) : Alike j j' (s.chargePass n w) (t.chargePass n w) := by
  unfold State.chargePass
  split
  · exact (h.modifyTool n _).recompute n
  · exact h

theorem raiseAtPassEnd (h : Alike j j' s t) (st : Fin 6) (e : PassEnd) (found : Option (DetClass × Nat)) :
    Alike j j' (s.raiseAtPassEnd st e found) (t.raiseAtPassEnd st e found) := by
  unfold State.raiseAtPassEnd
  split
  · exact h.takeDetection _
  · exact h

theorem passEnd (h : Alike j j' s t) {st : Fin 6} (air : (t.monitor st).air = (s.monitor st).air) (e : PassEnd) :
    Alike j j' (s.passEnd st e) (t.passEnd st e) := by
  unfold State.passEnd
  rw [h.toolGet]
  split
  · exact h
  · next x _ =>
    dsimp only
    rw [air, h.config, h.oldTool]
    have moved := (h.commit [s.oldTool e.wheel]).map (fun u => u.moveReference st e x) fun u m k =>
      u.over_moveReference m k st e x
    exact ((moved.withMonitors _ _).raiseAtPassEnd ..).chargePass ..

/-- The end of an operation is processed the same from states alike whose monitors hold the same operation. -/
theorem endProcessing (h : Alike j j' s t) {st : Fin 6} (op : (t.monitor st).op = (s.monitor st).op)
    (air : (t.monitor st).air = (s.monitor st).air) (handed : (t.monitor st).passEndOf = (s.monitor st).passEndOf) :
    Alike j j' (s.endProcessing st) (t.endProcessing st) := by
  unfold State.endProcessing
  dsimp only
  rw [op, handed]
  split
  · exact h
  · split
    · split
      · exact h.passEnd air _
      · exact h.dressEnd _
    · exact h

end Alike

end Sys2Proof.Machine
end

section
/-! What the work of a sample of an operation makes of its monitor: the monitor after it is a function of the monitor before
it, whatever the other blocks do (R28, R29, R30, R88, R90, R100). -/

namespace Sys2Proof.Machine

/-! ### The monitor's own step -/

namespace Monitor

/-- The burst-done mark is set, and the run ends, where the counter has reached N (R89). -/
def burstTaken (m : Monitor) : Monitor :=
  if m.burstReached.isSome then { m with burstDone := true, burstCounter := 0, runPeak := 0 } else m

/-- A channel found stuck latches (R100). -/
def faultTaken (m : Monitor) (c : Channel) : Monitor := if (m.stuckOn c).isSome then m.latchFault c else m

/-- The burst check of one sample (R88, R89). -/
def burstStage (m : Monitor) (l : Latched) (ae : Code) : Monitor := (m.burstCheck l ae).burstTaken

/-- The stuck check of one channel at one sample (R100). -/
def stuckStep (m : Monitor) (c : Channel) (code : Code) : Monitor := (m.stuckCheck c code).faultTaken c

/-- The stuck check of one sample (R100). -/
def stuckStage (m : Monitor) (power ae : Code) : Monitor := (m.stuckStep .power power).stuckStep .ae ae

/-- The monitor after the work of one sample of its operation `l`. -/
def worked (m : Monitor) (l : Latched) (power ae : Code) (index : Nat) : Monitor :=
  let checked : Bool := l.live && decide (m.blanking = 0)
  let isPass : Bool := decide (l.kind = .pass)
  let m := m.count index
  let m := if checked then m.burstStage l ae else m
  let m := if isPass && l.live then m.addEnergy power else m
  let m := if checked then m.stuckStage power ae else m
  if isPass then m.markFault else m

end Monitor

namespace State

variable (s : State) (st : Fin 6)

theorem takeBurst_monitor : (s.takeBurst st).monitor st = (s.monitor st).burstTaken := by
  unfold Monitor.burstTaken
  rcases s.takeBurst_cases st with ⟨hn, h⟩ | ⟨l, hl, h⟩
  · rw [h, hn]; rfl
  · rw [h, hl]
    have kept : ∀ (u : State) (d : Detection), (u.takeDetection d).monitor st = u.monitor st := fun u d =>
      congrArg (·[st]) (u.takeDetection_frame d .monitors (by decide))
    rw [kept, commit_eq, withJournal_monitor, setMonitor_monitor, if_pos rfl]
    rfl

theorem takeChannelFault_monitor (c : Channel) : (s.takeChannelFault st c).monitor st = (s.monitor st).faultTaken c := by
  unfold Monitor.faultTaken
  cases h : (s.monitor st).stuckOn c with
  | none => rw [takeChannelFault_of_none h]; rfl
  | some code =>
    rw [takeChannelFault_of_some h]
    have kept := (s.setMonitor st ((s.monitor st).latchFault c)).faultAnswered_frame st c code .monitors (by decide)
    have read : (((s.setMonitor st ((s.monitor st).latchFault c)).faultAnswered st c code).monitor st) = _ :=
      congrArg (·[st]) kept
    exact read.trans ((setMonitor_monitor ..).trans (if_pos rfl))

theorem modifyMonitor_monitor_self (f : Monitor → Monitor) : (s.modifyMonitor st f).monitor st = f (s.monitor st) :=
  (modifyMonitor_monitor ..).trans (if_pos rfl)

theorem burstStage_monitor (l : Latched) (ae : Code) : (s.burstStage st l ae).monitor st = (s.monitor st).burstStage l ae := by
  unfold burstStage Monitor.burstStage
  rw [takeBurst_monitor, modifyMonitor_monitor_self]

theorem stuckStage_monitor (power ae : Code) :
    (s.stuckStage st power ae).monitor st = (s.monitor st).stuckStage power ae := by
  unfold stuckStage Monitor.stuckStage Monitor.stuckStep
  dsimp only
  rw [takeChannelFault_monitor, modifyMonitor_monitor_self, takeChannelFault_monitor, modifyMonitor_monitor_self]

theorem monitor_ite (c : Prop) [Decidable c] (t u : State) :
    (if c then t else u).monitor st = if c then t.monitor st else u.monitor st := apply_ite (fun u : State => u.monitor st) ..

/-- The monitor after the work of a sample of its operation (R28). -/
theorem operationWork_monitor (l : Latched) (power ae : Code) :
    (s.operationWork st l power ae).monitor st = (s.monitor st).worked l power ae (s.capture st).next := by
  unfold operationWork Monitor.worked
  simp only [monitor_ite, modifyMonitor_monitor_self, stuckStage_monitor, burstStage_monitor]
  rfl

end State

/-! ### What each stage writes of the monitor -/

namespace Monitor

/-- The monitor with the burst check's three fields as given. -/
def withRun (m : Monitor) (done : Bool) (counter peak : Nat) : Monitor :=
  { m with burstDone := done, burstCounter := counter, runPeak := peak }

/-- The burst check writes its own three fields alone (R88, R89). -/
theorem burstStage_writes (m : Monitor) (l : Latched) (ae : Code) : ∃ done counter peak,
    m.burstStage l ae = m.withRun done counter peak := by
  have check : ∃ done counter peak, m.burstCheck l ae = m.withRun done counter peak := by
    unfold burstCheck
    split
    · exact ⟨m.burstDone, m.burstCounter, m.runPeak, rfl⟩
    · split <;> exact ⟨m.burstDone, _, _, rfl⟩
  obtain ⟨done, counter, peak, h⟩ := check
  unfold burstStage burstTaken
  rw [h]
  split <;> exact ⟨_, _, _, rfl⟩

/-- The monitor with the fields that the stuck check may write as given. -/
def withChannels (m : Monitor) (power ae : ChannelState) (mark : Bool) (counter peak : Nat) : Monitor :=
  { m with power := power, ae := ae, powerFaultMark := mark, burstCounter := counter, runPeak := peak }

theorem addEnergy_eq (m : Monitor) (code : Code) : m.addEnergy code =
    { m with energy := if m.power.fault then m.energy else satAdd32 m.energy code.toNat } := by
  unfold addEnergy
  split <;> rfl

/-- The energy step of a sample: a live pass with a clear power channel takes the code (R30, R41). -/
theorem addEnergy_of_live (m : Monitor) (l : Latched) (code : Code) :
    (if (decide (l.kind = .pass) && l.live) = true then m.addEnergy code else m) =
      { m with energy := if l.kind = .pass ∧ l.live = true ∧ m.power.fault = false then satAdd32 m.energy code.toNat
                else m.energy } := by
  rw [addEnergy_eq]
  cases m.power.fault <;> cases l.live <;> by_cases hk : l.kind = .pass <;> simp [hk]

theorem markFault_eq (m : Monitor) : m.markFault = { m with powerFaultMark := m.powerFaultMark || m.power.fault } := by
  unfold markFault
  split
  · next h => rw [h, Bool.or_true]
  · next h => rw [Bool.not_eq_true] at h; rw [h, Bool.or_false]

theorem faultTaken_power (m : Monitor) : m.faultTaken .power =
    m.withChannels (if (m.stuckOn .power).isSome then ChannelState.latched else m.power) m.ae
      (m.powerFaultMark || (m.stuckOn .power).isSome && m.state == .pass) m.burstCounter m.runPeak := by
  unfold faultTaken
  cases (m.stuckOn .power).isSome with
  | false => rw [if_neg (by decide), if_neg (by decide), Bool.false_and, Bool.or_false]; rfl
  | true => rw [if_pos rfl, if_pos rfl, Bool.true_and, latchFault_power]; rfl

theorem faultTaken_ae (m : Monitor) : m.faultTaken .ae =
    m.withChannels m.power (if (m.stuckOn .ae).isSome then ChannelState.latched else m.ae) m.powerFaultMark
      (if (m.stuckOn .ae).isSome then 0 else m.burstCounter) (if (m.stuckOn .ae).isSome then 0 else m.runPeak) := by
  unfold faultTaken
  cases (m.stuckOn .ae).isSome <;> rfl

/-- The stuck check writes the channels, the power-fault mark and the run alone; it sets the mark only with a latch of the
power channel in a pass (R30, R90, R100). -/
theorem stuckStage_writes (m : Monitor) (power ae : Code) : ∃ p a latch counter peak,
    m.stuckStage power ae = m.withChannels p a (m.powerFaultMark || latch && m.state == .pass) counter peak ∧
      (latch = true → p.fault = true) := by
  unfold stuckStage stuckStep
  rw [faultTaken_power, faultTaken_ae]
  generalize ((m.stuckCheck .power power).stuckOn .power).isSome = latch
  refine ⟨_, _, latch, _, _, rfl, fun h => ?_⟩
  rw [h]
  rfl

/-- What the work of a sample writes of its monitor: the counters, the energy of a live pass with a clear power channel, and
past the blanking the fields of the two checks (R29, R30, R41, R88, R90, R100). -/
theorem worked_writes (m : Monitor) (l : Latched) (power ae : Code) (index : Nat) : ∃ p a mark done counter peak,
    m.worked l power ae index =
      { m with
        sampleCount := satAdd32 m.sampleCount 1
        blanking := m.blanking - 1
        lastIndex := index
        energy := if l.kind = .pass ∧ l.live = true ∧ m.power.fault = false then satAdd32 m.energy power.toNat else m.energy
        power := p
        ae := a
        powerFaultMark := mark
        burstDone := done
        burstCounter := counter
        runPeak := peak } ∧
      ((l.live && decide (m.blanking = 0)) = false →
        done = m.burstDone ∧ counter = m.burstCounter ∧ peak = m.runPeak) ∧
      (l.kind = .pass → m.powerFaultMark = false → mark = p.fault) ∧
      (l.kind = .dress → m.state = .dress → mark = m.powerFaultMark) := by
  have run : ∃ done counter peak,
      (if (l.live && decide (m.blanking = 0)) = true then (m.count index).burstStage l ae else m.count index) =
        (m.count index).withRun done counter peak ∧
      ((l.live && decide (m.blanking = 0)) = false →
        done = m.burstDone ∧ counter = m.burstCounter ∧ peak = m.runPeak) := by
    cases l.live && decide (m.blanking = 0) with
    | false => exact ⟨_, _, _, rfl, fun _ => ⟨rfl, rfl, rfl⟩⟩
    | true =>
      obtain ⟨done, counter, peak, h⟩ := (m.count index).burstStage_writes l ae
      exact ⟨done, counter, peak, h, fun h => by cases h⟩
  have channels : ∀ n : Monitor, ∃ p a latch counter peak,
      (if (l.live && decide (m.blanking = 0)) = true then n.stuckStage power ae else n) =
        n.withChannels p a (n.powerFaultMark || latch && n.state == .pass) counter peak ∧
      ((l.live && decide (m.blanking = 0)) = false → counter = n.burstCounter ∧ peak = n.runPeak) ∧
      (latch = true → p.fault = true) := by
    intro n
    cases l.live && decide (m.blanking = 0) with
    | false => exact ⟨n.power, n.ae, false, _, _,
        by rw [Bool.false_and, Bool.or_false]; rfl, fun _ => ⟨rfl, rfl⟩, fun h => by cases h⟩
    | true =>
      obtain ⟨p, a, latch, counter, peak, h, hlatch⟩ := n.stuckStage_writes power ae
      exact ⟨p, a, latch, counter, peak, h, (fun h => by cases h), hlatch⟩
  obtain ⟨done, counter, peak, hrun, hkept⟩ := run
  unfold worked
  dsimp only
  rw [hrun, addEnergy_of_live]
  obtain ⟨p, a, latch, counter', peak', h, hkept', hlatch⟩ := channels
    { (m.count index).withRun done counter peak with
      energy := if l.kind = .pass ∧ l.live = true ∧ m.power.fault = false then satAdd32 m.energy power.toNat else m.energy }
  refine ⟨p, a, if l.kind = .pass then (m.powerFaultMark || latch && m.state == .pass) || p.fault
    else (m.powerFaultMark || latch && m.state == .pass), done, counter', peak', ?_, fun hb => ?_, fun hk h0 => ?_,
    fun hk hd => ?_⟩
  · refine Eq.trans (congrArg (fun n : Monitor => if decide (l.kind = .pass) = true then n.markFault else n) h) ?_
    dsimp only
    rw [markFault_eq]
    by_cases hk : l.kind = .pass
    · rw [if_pos (decide_eq_true hk), if_pos hk]
      rfl
    · rw [if_neg (by simpa using hk), if_neg hk]
      rfl
  · obtain ⟨rfl, rfl, rfl⟩ := hkept hb
    exact ⟨rfl, hkept' hb⟩
  · rw [if_pos hk, h0, Bool.false_or]
    cases latch with
    | false => rw [Bool.false_and, Bool.false_or]
    | true => rw [hlatch rfl, Bool.or_true]
  · rw [if_neg (by rw [hk]; decide), hd]
    simp

end Monitor

end Sys2Proof.Machine
end

section
/-! A sample stage by stage, in the order of R27: the filter, the falls, the part end, the both-low test, the rises, the work. -/

namespace Sys2Proof.Machine

/-- The fall of an operation's own line. -/
def Edges.ownFall (e : Edges) : OpKind → Bool
  | .pass => e.passFall
  | .dress => e.dressFall

/-- The rise of the line that is not the operation's. -/
def Edges.otherRise (e : Edges) : OpKind → Bool
  | .pass => e.dressRise
  | .dress => e.passRise

namespace State

variable (s : State)

/-- The state with the filter's step taken at a station (R25, R26). -/
def filterTo (st : Fin 6) (raw : Lines) : State := s.modifyMonitor st fun m => m.filterStep raw

theorem filterTo_monitor (st : Fin 6) (raw : Lines) : (s.filterTo st raw).monitor st = (s.monitor st).filterStep raw :=
  s.modifyMonitor_monitor_self st _

theorem monitorTo_monitor (st : Fin 6) (x : MonitorState) :
    (s.monitorTo st x).monitor st = { s.monitor st with state := x } := s.modifyMonitor_monitor_self st _

/-- Writing a monitor twice is writing it once. -/
theorem setMonitor_setMonitor (st : Fin 6) (m n : Monitor) : (s.setMonitor st m).setMonitor st n = s.setMonitor st n := by
  have same : (s.monitors.set st m).set st n = s.monitors.set st n := Vector.set_set ..
  exact congrArg s.withMonitors same

variable {s}

/-- A sample of a monitor that is not in OFF (R27). -/
theorem takeSample_eq {st : Fin 6} (on : (s.monitor st).state ≠ .off) (power ae : Code) (raw : Lines) :
    s.takeSample st power ae raw =
      (((((s.filterTo st raw).takeFalls st ((s.monitor st).edges raw)).takePartEnd st ((s.monitor st).edges raw)).bothLowTest
        st).takeRises st ((s.monitor st).edges raw)).sampleWork st power ae := if_neg on

/-! ### Stages that do nothing -/

theorem takeFalls_stands {st : Fin 6} {e : Edges} (hp : (s.monitor st).state = .pass → e.passFall = false)
    (hd : (s.monitor st).state = .dress → e.dressFall = false) : s.takeFalls st e = s := by
  unfold takeFalls
  split
  · next h => rw [hp h]; rfl
  · next h => rw [hd h]; rfl
  all_goals rfl

theorem takePartEnd_stands {st : Fin 6} {e : Edges} (h : e.partRise = false) : s.takePartEnd st e = s := by
  unfold takePartEnd
  rw [h]
  rfl

theorem bothLowTest_stands {st : Fin 6} (h : (s.monitor st).state ≠ .settling ∧ (s.monitor st).state ≠ .conflict) :
    s.bothLowTest st = s := if_neg fun low => low.1.elim h.1 h.2

theorem takeRises_operating {st : Fin 6} {e : Edges} {k : OpKind} (h : (s.monitor st).state = k.state)
    (he : e.otherRise k = false) : s.takeRises st e = s := by
  unfold takeRises
  cases k
  · rw [h]; exact if_neg (ne_true_of_eq_false he)
  · rw [h]; exact if_neg (ne_true_of_eq_false he)

theorem takeRises_conflict {st : Fin 6} (h : (s.monitor st).state = .conflict) (e : Edges) : s.takeRises st e = s := by
  unfold takeRises
  rw [h]

/-- Outside an operation the work of a sample is the capture write (R28). -/
theorem sampleWork_resting {st : Fin 6} (on : (s.monitor st).state ≠ .off) (hp : (s.monitor st).state ≠ .pass)
    (hd : (s.monitor st).state ≠ .dress) (power ae : Code) : s.sampleWork st power ae = s.captureWrite st (power, ae) := by
  unfold sampleWork
  split <;> first | rfl | contradiction

theorem sampleWork_operating {st : Fin 6} {l : Latched} (h : (s.monitor st).state = .pass ∨ (s.monitor st).state = .dress)
    (hop : (s.monitor st).op = some l) (power ae : Code) : s.sampleWork st power ae = s.operationWork st l power ae := by
  unfold sampleWork
  rcases h with h | h <;> rw [h, hop]

/-! ### Stages that move the monitor -/

/-- Both lines LOW take SETTLING and CONFLICT to IDLE (R32, R39). -/
theorem bothLowTest_eq {st : Fin 6} (h : (s.monitor st).state = .settling ∨ (s.monitor st).state = .conflict) :
    s.bothLowTest st = s.monitorTo st
      (if (s.monitor st).filtered.pass = false ∧ (s.monitor st).filtered.dress = false then .idle
      else (s.monitor st).state) := by
  unfold bothLowTest
  dsimp only
  split
  · next low => rw [if_pos low.2]
  · next high =>
    rw [if_neg fun low => high ⟨h, low⟩]
    have same : s.monitors.set st (s.monitor st) = s.monitors := Vector.set_getElem_self st.isLt
    exact (congrArg s.withMonitors same).symm

theorem takeRises_both {st : Fin 6} {e : Edges} (h : (s.monitor st).state = .idle) (hp : e.passRise = true)
    (hd : e.dressRise = true) : s.takeRises st e = s.signalConflict st none := by
  unfold takeRises
  rw [h, hp, hd]

theorem takeRises_discards {st : Fin 6} {e : Edges} {k : OpKind} (h : (s.monitor st).state = k.state)
    (he : e.otherRise k = true) :
    s.takeRises st e = s.signalConflict st (some k) := by
  unfold takeRises
  cases k
  · rw [h]; exact if_pos he
  · rw [h]; exact if_pos he

/-- The notice of both lines high without an operation (R35). -/
theorem signalConflict_none (st : Fin 6) : s.signalConflict st none =
    (s.monitorTo st .conflict).notify false .signalConflict (some st) none 0 0 0 := rfl

/-- The notice of both lines high during an operation (R38). -/
theorem signalConflict_some {st : Fin 6} {l : Latched} (hop : (s.monitor st).op = some l) (k : OpKind) :
    s.signalConflict st (some k) = (s.monitorTo st .conflict).notify false .signalConflict (some st)
      (if l.tool = 0 then none else some l.posKind) l.tool 0 (k.code + 1) := by
  unfold signalConflict
  dsimp only
  rw [monitorTo_monitor, hop]

end State

/-! ### Rises that do not happen -/

/-- A line that is LOW after the sample has not risen. -/
theorem Monitor.no_rise_of_low {m : Monitor} {raw : Lines} (hp : (m.filterStep raw).filtered.pass = false)
    (hd : (m.filterStep raw).filtered.dress = false) :
    (m.edges raw).passRise = false ∧ (m.edges raw).dressRise = false := by
  unfold edges
  unfold filterStep at hp hd
  split at hp
  · next h =>
    rw [if_pos h] at hd
    rw [if_pos h]
    dsimp only at hp hd ⊢
    rw [hp, hd, Bool.and_false, Bool.and_false]
    exact ⟨rfl, rfl⟩
  · next h =>
    rw [if_neg h]
    exact ⟨rfl, rfl⟩

namespace State

variable {s : State}

/-- A sample of a monitor in SETTLING or CONFLICT without a part end: the filter, the both-low test and the capture write
(R32, R39). -/
theorem takeSample_waiting {st : Fin 6} {raw : Lines}
    (h : (s.monitor st).state = .settling ∨ (s.monitor st).state = .conflict) (hpart : ((s.monitor st).edges raw).partRise = false)
    (power ae : Code) : s.takeSample st power ae raw =
      ((s.filterTo st raw).monitorTo st
        (if ((s.monitor st).filterStep raw).filtered.pass = false ∧ ((s.monitor st).filterStep raw).filtered.dress = false
        then .idle else (s.monitor st).state)).captureWrite st (power, ae) := by
  have on : (s.monitor st).state ≠ .off := by rcases h with h | h <;> rw [h] <;> decide
  have state : ((s.filterTo st raw).monitor st).state = (s.monitor st).state := by
    rw [filterTo_monitor, Monitor.filterStep_state]
  have falls : (s.filterTo st raw).takeFalls st ((s.monitor st).edges raw) = s.filterTo st raw := by
    refine takeFalls_stands (fun hp => ?_) fun hd => ?_
    · rw [state] at hp; rcases h with h | h <;> rw [h] at hp <;> cases hp
    · rw [state] at hd; rcases h with h | h <;> rw [h] at hd <;> cases hd
  rw [takeSample_eq on, falls, takePartEnd_stands hpart, bothLowTest_eq (by rw [state]; exact h), state, filterTo_monitor]
  split
  · next low =>
    obtain ⟨hp, hd⟩ := Monitor.no_rise_of_low low.1 low.2
    have idle : (((s.filterTo st raw).monitorTo st .idle).monitor st).state = .idle := by rw [monitorTo_monitor]
    rw [takeRises_none _ idle hp hd, sampleWork_idle _ (.inl idle)]
  · next high =>
    have stays : (((s.filterTo st raw).monitorTo st (s.monitor st).state).monitor st).state = (s.monitor st).state := by
      rw [monitorTo_monitor]
    have rises : ((s.filterTo st raw).monitorTo st (s.monitor st).state).takeRises st ((s.monitor st).edges raw) = _ :=
      h.elim (fun h => takeRises_settling _ (stays.trans h) _) fun h => takeRises_conflict (stays.trans h) _
    rw [rises, sampleWork_resting] <;> rw [stays] <;> rcases h with h | h <;> rw [h] <;> decide

end State

end Sys2Proof.Machine
end

section
/-! The filter over two samples, and the samples at which no operation runs on: the starting sample, both lines rising, and
an operation discarded (R25, R26, R32, R35, R38, R39). -/

namespace Sys2Proof.Machine

/-! ### What stands of the filter after its step -/

/-- The filter of `st` stands, and its monitor has not gone to OFF. -/
def SameFilter (st : Fin 6) (s t : State) : Prop :=
  (t.monitor st).filtered = (s.monitor st).filtered ∧ (t.monitor st).differing = (s.monitor st).differing ∧
    (t.monitor st).primed = (s.monitor st).primed ∧ ((s.monitor st).state ≠ .off → (t.monitor st).state ≠ .off)

namespace SameFilter

variable {st : Fin 6}

theorem refl (s : State) : SameFilter st s s := ⟨rfl, rfl, rfl, id⟩

theorem trans {s t u : State} (h : SameFilter st s t) (k : SameFilter st t u) : SameFilter st s u := by
  obtain ⟨hf, hd, hp, hs⟩ := h
  obtain ⟨kf, kd, kp, ks⟩ := k
  exact ⟨kf.trans hf, kd.trans hd, kp.trans hp, ks ∘ hs⟩

theorem of_monitor {s t : State} (h : t.monitor st = s.monitor st) : SameFilter st s t := by
  unfold SameFilter
  rw [h]
  exact ⟨rfl, rfl, rfl, id⟩

variable (s : State)

theorem monitorTo {x : MonitorState} (hx : x ≠ .off) : SameFilter st s (s.monitorTo st x) := by
  unfold SameFilter
  rw [State.monitorTo_monitor]
  exact ⟨rfl, rfl, rfl, fun _ => hx⟩

theorem finish {x : MonitorState} (hx : x ≠ .off) : SameFilter st s (s.finish st x) := by
  obtain ⟨a, h⟩ := s.finish_monitor st x
  unfold SameFilter
  rw [h]
  exact ⟨rfl, rfl, rfl, fun _ => hx⟩

theorem partEnd : SameFilter st s (s.partEnd st) := of_monitor (State.partEnd_monitor ..)

theorem signalConflict (k : Option OpKind) : SameFilter st s (s.signalConflict st k) := by
  refine (monitorTo s (x := .conflict) (by decide)).trans (of_monitor ?_)
  unfold State.signalConflict
  dsimp only
  split <;> rfl

theorem takeFalls (e : Edges) : SameFilter st s (s.takeFalls st e) := by
  unfold State.takeFalls
  split
  · split
    · exact finish s (by decide)
    · exact refl s
  · split
    · exact finish s (by decide)
    · exact refl s
  all_goals exact refl s

theorem takePartEnd (e : Edges) : SameFilter st s (s.takePartEnd st e) := by
  unfold State.takePartEnd
  split
  · split
    · exact (finish s (by decide)).trans (partEnd _)
    · exact (finish s (by decide)).trans (partEnd _)
    · exact partEnd s
    · exact partEnd s
    · exact partEnd s
    · exact refl s
  · exact refl s

theorem bothLowTest : SameFilter st s (s.bothLowTest st) := by
  unfold State.bothLowTest
  dsimp only
  split
  · exact monitorTo s (by decide)
  · exact refl s

theorem start {x : MonitorState} (l : Latched) (hx : x ≠ .off) :
    SameFilter st s (s.modifyMonitor st fun m => m.start x l) := by
  unfold SameFilter
  rw [State.modifyMonitor_monitor_self]
  exact ⟨rfl, rfl, rfl, fun _ => hx⟩

theorem takeRises (e : Edges) : SameFilter st s (s.takeRises st e) := by
  unfold State.takeRises
  split
  · split
    · exact signalConflict s none
    · exact start s _ (by decide)
    · exact start s _ (by decide)
    · exact refl s
  · split
    · exact signalConflict s _
    · exact refl s
  · split
    · exact signalConflict s _
    · exact refl s
  all_goals exact refl s

theorem operationWork (l : Latched) (power ae : Code) : SameFilter st s (s.operationWork st l power ae) := by
  obtain ⟨_, _, _, _, _, _, h, _⟩ := (s.monitor st).worked_writes l power ae (s.capture st).next
  unfold SameFilter
  rw [State.operationWork_monitor, h]
  exact ⟨rfl, rfl, rfl, id⟩

theorem sampleWork (power ae : Code) : SameFilter st s (s.sampleWork st power ae) := by
  unfold State.sampleWork
  split
  · exact refl s
  · exact of_monitor rfl
  · exact of_monitor rfl
  · exact of_monitor rfl
  all_goals
    split
    · exact operationWork s _ power ae
    · exact of_monitor rfl

/-- A sample moves the filter by its first step alone. -/
theorem takeSample (on : (s.monitor st).state ≠ .off) (power ae : Code) (raw : Lines) :
    SameFilter st (s.filterTo st raw) (s.takeSample st power ae raw) := by
  rw [State.takeSample_eq on]
  exact ((((takeFalls _ _).trans (takePartEnd _ _)).trans (bothLowTest _)).trans (takeRises _ _)).trans (sampleWork _ power ae)

end SameFilter

/-- The filter after one sample of a primed monitor (R25). -/
theorem State.takeSample_filter {s : State} {st : Fin 6} (on : (s.monitor st).state ≠ .off)
    (hp : (s.monitor st).primed = true) (power ae : Code) (raw : Lines) :
    ((s.takeSample st power ae raw).monitor st).filtered = (s.monitor st).filteredNext raw ∧
      ((s.takeSample st power ae raw).monitor st).differing = (s.monitor st).differingNext raw ∧
      ((s.takeSample st power ae raw).monitor st).primed = true ∧
      ((s.takeSample st power ae raw).monitor st).state ≠ .off := by
  obtain ⟨hf, hd, hpr, hs⟩ := SameFilter.takeSample s on power ae raw
  rw [State.filterTo_monitor] at hf hd hpr hs
  rw [hf, hd, hpr, Monitor.filterStep_of_primed hp]
  refine ⟨rfl, rfl, hp, hs ?_⟩
  rwa [Monitor.filterStep_state]

/-- The filtered level of a line after a first sample that found no line differing, and after a second (R25). -/
theorem filterLine_twice (f r1 r2 : Bool) : filterLine f (differs f false r1) r2 =
    if r1 ≠ f ∧ r2 ≠ f then r2 else f := by
  cases f <;> cases r1 <;> cases r2 <;> rfl

/-- A sample of a part with power. -/
theorem exec_sample {s : State} (hp : s.powered = true) (st : Fin 6) (power ae : Code) (raw : Lines) :
    exec (.sample st power ae raw) s = .next ((s.withJournal []).takeSample st power ae raw) :=
  congrArg Host.Outcome.next (State.event_of_powered hp _)

theorem State.filterTo_monitorTo (s : State) (st : Fin 6) (raw : Lines) (x : MonitorState) :
    (s.filterTo st raw).monitorTo st x = s.setMonitor st { (s.monitor st).filterStep raw with state := x } := by
  have read := s.filterTo_monitor st raw
  refine (s.setMonitor_setMonitor st _ _).trans ?_
  exact congrArg (fun m : Monitor => s.setMonitor st { m with state := x }) read

/-- Settles O12: the filter's step is the first of a sample and no later stage moves the filter; the starting sample has no
edge, so the sample is its filter step, the both-low test and the capture write. -/
theorem linesFilterOverTwoSamples : Obligations.LinesFilterOverTwoSamples := by
  constructor
  · intro s st p1 a1 p2 a2 raw1 raw2 hp on hprimed hd
    obtain ⟨f1, d1, primed, on'⟩ := State.takeSample_filter (s := s.withJournal []) on hprimed p1 a1 raw1
    have power : ((s.withJournal []).takeSample st p1 a1 raw1).powered = true :=
      (Worked.takeSample (s.withJournal []) st p1 a1 raw1).powered.trans hp
    refine ⟨_, _, exec_sample hp st p1 a1 raw1, exec_sample power st p2 a2 raw2, ?_⟩
    generalize (s.withJournal []).takeSample st p1 a1 raw1 = t at *
    obtain ⟨f2, -⟩ := State.takeSample_filter (s := t.withJournal []) on' primed p2 a2 raw2
    simp only [State.withJournal_monitor] at f1 d1 f2
    have first : (s.monitor st).filteredNext raw1 = (s.monitor st).filtered := by
      unfold Monitor.filteredNext
      rw [hd]
      rfl
    rw [f2]
    refine ⟨f1.trans first, fun line hline => ?_⟩
    unfold Monitor.filteredNext
    rw [f1, first, d1]
    unfold Monitor.differingNext
    rw [hd]
    simp only [List.mem_cons, List.not_mem_nil, or_false] at hline
    rcases hline with rfl | rfl | rfl | rfl | rfl <;> exact filterLine_twice ..
  · intro s st power ae raw hp hst hprimed
    refine ⟨_, exec_sample hp st power ae raw, ?_⟩
    have step : (s.monitor st).filterStep raw =
        { s.monitor st with filtered := raw, differing := Lines.low, primed := true } := by
      unfold Monitor.filterStep
      rw [hprimed]
      rfl
    have edges : ((s.monitor st).edges raw).partRise = false := by
      unfold Monitor.edges
      rw [hprimed]
      rfl
    rw [State.takeSample_waiting (s := s.withJournal []) (.inl hst) edges, State.filterTo_monitorTo]
    simp only [State.withJournal_monitor, step, hst]
    refine ⟨fun y hy => ?_, oneBecomes_set _ _ _, oneBecomes_set _ _ _⟩
    cases y <;> first | rfl | simp at hy

end Sys2Proof.Machine
end

section
/-! Both lines high: rises at one sample in IDLE, and a rise of the other line during an operation (R35, R38). -/

namespace Sys2Proof.Machine

namespace State

variable {s : State}

/-- A part end at a sample in IDLE, SETTLING or CONFLICT; nothing without one (R40). -/
theorem takePartEnd_resting {st : Fin 6} (e : Edges) (h : (s.monitor st).state = .idle ∨ (s.monitor st).state = .settling ∨
    (s.monitor st).state = .conflict) : s.takePartEnd st e = if e.partRise then s.partEnd st else s := by
  unfold takePartEnd
  rcases h with h | h | h <;> rw [h]

/-- A sample in IDLE at which PASS and DRESS both rise (R35). -/
theorem takeSample_both {st : Fin 6} {raw : Lines} (hst : (s.monitor st).state = .idle)
    (hp : ((s.monitor st).edges raw).passRise = true) (hd : ((s.monitor st).edges raw).dressRise = true) (power ae : Code) :
    s.takeSample st power ae raw =
      ((((s.filterTo st raw).takePartEnd st ((s.monitor st).edges raw)).monitorTo st
        .conflict).notify false .signalConflict (some st) none 0 0 0).captureWrite st (power, ae) := by
  have filtered : ((s.filterTo st raw).monitor st).state = .idle := by
    rw [filterTo_monitor, Monitor.filterStep_state, hst]
  have falls : (s.filterTo st raw).takeFalls st ((s.monitor st).edges raw) = s.filterTo st raw :=
    takeFalls_stands (fun h => absurd (filtered.symm.trans h) (by decide)) fun h => absurd (filtered.symm.trans h) (by decide)
  rw [takeSample_eq (by rw [hst]; decide), falls]
  generalize hu : (s.filterTo st raw).takePartEnd st ((s.monitor st).edges raw) = u
  have idle : (u.monitor st).state = .idle := by
    rw [← hu, takePartEnd_resting _ (.inl filtered)]
    split
    · rw [partEnd_monitor, filtered]
    · exact filtered
  rw [bothLowTest_stands (by rw [idle]; decide), takeRises_both idle hp hd, signalConflict_none]
  have conflict : (((u.monitorTo st .conflict).notify false .signalConflict (some st) none 0 0 0).monitor st).state =
      .conflict := by
    rw [notify_monitor, monitorTo_monitor]
  exact sampleWork_resting (by rw [conflict]; decide) (by rw [conflict]; decide) (by rw [conflict]; decide) power ae

/-- A sample of an operation at which neither its own line falls nor a part ends: the rises and the work follow the filter. -/
theorem takeSample_running {st : Fin 6} {raw : Lines} {k : OpKind} (hst : (s.monitor st).state = k.state)
    (hfall : ((s.monitor st).edges raw).ownFall k = false) (hpart : ((s.monitor st).edges raw).partRise = false)
    (power ae : Code) : s.takeSample st power ae raw =
      ((s.filterTo st raw).takeRises st ((s.monitor st).edges raw)).sampleWork st power ae := by
  have filtered : ((s.filterTo st raw).monitor st).state = k.state := by
    rw [filterTo_monitor, Monitor.filterStep_state, hst]
  have falls : (s.filterTo st raw).takeFalls st ((s.monitor st).edges raw) = s.filterTo st raw := by
    cases k
    · exact takeFalls_stands (fun _ => hfall) fun h => absurd (filtered.symm.trans h) (by decide)
    · exact takeFalls_stands (fun h => absurd (filtered.symm.trans h) (by decide)) fun _ => hfall
  have low : (s.filterTo st raw).bothLowTest st = s.filterTo st raw :=
    bothLowTest_stands (by rw [filtered]; cases k <;> decide)
  rw [takeSample_eq (by rw [hst]; cases k <;> decide), falls, takePartEnd_stands hpart, low]

/-- A sample of an operation at which the other line rises (R38). -/
theorem takeSample_discards {st : Fin 6} {raw : Lines} {l : Latched} {k : OpKind} (hst : (s.monitor st).state = k.state)
    (hop : (s.monitor st).op = some l) (hfall : ((s.monitor st).edges raw).ownFall k = false)
    (hpart : ((s.monitor st).edges raw).partRise = false) (hrise : ((s.monitor st).edges raw).otherRise k = true)
    (power ae : Code) : s.takeSample st power ae raw =
      (((s.filterTo st raw).monitorTo st .conflict).notify false .signalConflict (some st)
        (if l.tool = 0 then none else some l.posKind) l.tool 0 (k.code + 1)).captureWrite st (power, ae) := by
  have filtered : ((s.filterTo st raw).monitor st).state = k.state := by
    rw [filterTo_monitor, Monitor.filterStep_state, hst]
  have op : ((s.filterTo st raw).monitor st).op = some l := by
    rw [filterTo_monitor, Monitor.filterStep_op, hop]
  rw [takeSample_running hst hfall hpart, takeRises_discards filtered hrise, signalConflict_some op]
  have conflict : ((((s.filterTo st raw).monitorTo st .conflict).notify false .signalConflict (some st)
      (if l.tool = 0 then none else some l.posKind) l.tool 0 (k.code + 1)).monitor st).state = .conflict := by
    rw [notify_monitor, monitorTo_monitor]
  exact sampleWork_resting (by rw [conflict]; decide) (by rw [conflict]; decide) (by rw [conflict]; decide) power ae

/-- The filter's step of an event leaves a state alike. -/
theorem alike_filterTo (s : State) (st : Fin 6) (raw : Lines) : Alike s.journal [] s ((s.withJournal []).filterTo st raw) :=
  ⟨_, [], rfl, rfl⟩

end State

/-- Settles O14: the part end, if any, comes first, and does what it would do before the sample; then both rises are one
conflict. -/
theorem bothLinesRiseTogether : Obligations.BothLinesRiseTogether := by
  intro s st power ae raw hp hst hprimed hfp hfd hdp hrp hdd hrd
  refine ⟨_, exec_sample hp st power ae raw, ?_⟩
  have edges := Monitor.edges_of_primed hprimed raw
  rw [hfp, hfd, hdp, hrp, hdd, hrd] at edges
  have part : ((s.monitor st).edges raw).partRise = true ↔
      (s.monitor st).filtered.partEnd = false ∧ (s.monitor st).differing.partEnd = true ∧ raw.partEnd = true := by
    rw [edges]
    simp [and_assoc]
  rw [State.takeSample_both (s := s.withJournal []) hst (by rw [State.withJournal_monitor, edges]; rfl)
    (by rw [State.withJournal_monitor, edges]; rfl), State.withJournal_monitor]
  have idle : (((s.withJournal []).filterTo st raw).monitor st).state = .idle := by
    rw [State.filterTo_monitor, Monitor.filterStep_state]; exact hst
  have taken := State.takePartEnd_resting ((s.monitor st).edges raw) (.inl idle)
  generalize ((s.withJournal []).filterTo st raw).takePartEnd st ((s.monitor st).edges raw) = u at taken ⊢
  have monitor : u.monitor st = { s.monitor st with
      filtered := (s.monitor st).filteredNext raw, differing := (s.monitor st).differingNext raw } := by
    rw [← Monitor.filterStep_of_primed hprimed, taken]
    split
    · rw [State.partEnd_monitor, State.filterTo_monitor]; rfl
    · rw [State.filterTo_monitor]; rfl
  have clock : u.clock = s.clock := by
    rw [taken]
    split
    · exact (Worked.partEnd ..).clock
    · rfl
  have notices : u.notices = if (s.monitor st).filtered.partEnd = false ∧ (s.monitor st).differing.partEnd = true ∧
      raw.partEnd = true then (s.partEnd st).notices else s.notices := by
    simp only [taken, part]
    split
    · exact ((s.alike_filterTo st raw).partEnd st).same (x := .notices) (by decide) (by decide)
    · rfl
  have conflict : (((u.monitorTo st .conflict).notify false .signalConflict (some st) none 0 0 0).captureWrite st
      (power, ae)).monitor st = _ := u.monitorTo_monitor st .conflict
  rw [conflict, monitor]
  refine ⟨rfl, rfl, rfl, rfl, ?_⟩
  rw [← notices, ← clock]
  rfl

/-- Settles O15: the rise of the other line is the one stage of the sample that acts; a monitor that waits for both lines LOW
takes no rise at the sample at which they are LOW. -/
theorem linesBothHighDiscardOperation : Obligations.LinesBothHighDiscardOperation := by
  constructor
  · intro s st power ae raw l hp hprimed hop hpart hline
    refine ⟨_, exec_sample hp st power ae raw, ?_⟩
    have edges := Monitor.edges_of_primed hprimed raw
    have noPart : ((s.monitor st).edges raw).partRise = false := by rw [edges]; simpa [and_assoc] using hpart
    obtain ⟨state, fall, rise⟩ : (s.monitor st).state = l.kind.state ∧ ((s.monitor st).edges raw).ownFall l.kind = false ∧
        ((s.monitor st).edges raw).otherRise l.kind = true := by
      rcases hline with ⟨hst, hk, hf, hd, hof, hod, hr⟩ | ⟨hst, hk, hf, hd, hof, hod, hr⟩
      · rw [hk, edges]; simp [OpKind.state, Edges.ownFall, Edges.otherRise, hst, hd, hof, hod, hr]
      · rw [hk, edges]; simp [OpKind.state, Edges.ownFall, Edges.otherRise, hst, hd, hof, hod, hr]
    rw [State.takeSample_discards (s := s.withJournal []) state hop fall noPart rise]
    have conflict : (((((s.withJournal []).filterTo st raw).monitorTo st .conflict).notify false .signalConflict (some st)
        (if l.tool = 0 then none else some l.posKind) l.tool 0 (l.kind.code + 1)).captureWrite st (power, ae)).monitor st = _ :=
      ((s.withJournal []).filterTo st raw).monitorTo_monitor st .conflict
    rw [State.filterTo_monitor, Monitor.filterStep_of_primed (m := (s.withJournal []).monitor st) hprimed] at conflict
    rw [conflict]
    refine ⟨rfl, hop, rfl, rfl, fun y hy => ?_, fun n hn => ?_⟩
    · cases y <;> first | rfl | simp at hy
    · subst hn
      rcases l with ⟨_ | _, _⟩ <;> rfl
  · intro s st power ae raw hp hprimed hst hpart
    refine ⟨_, exec_sample hp st power ae raw, ?_⟩
    have noPart : ((s.monitor st).edges raw).partRise = false := by
      rw [Monitor.edges_of_primed hprimed raw]; simpa [and_assoc] using hpart
    rw [State.takeSample_waiting (s := s.withJournal []) hst noPart]
    have moved : ∀ x, ((((s.withJournal []).filterTo st raw).monitorTo st x).captureWrite st (power, ae)).monitor st = _ :=
      fun x => ((s.withJournal []).filterTo st raw).monitorTo_monitor st x
    rw [moved, State.filterTo_monitor, Monitor.filterStep_of_primed (m := (s.withJournal []).monitor st) hprimed]
    refine ⟨fun y hy => ?_, rfl, rfl, rfl, rfl, oneBecomes_set _ _ _⟩
    cases y <;> first | rfl | simp at hy

end Sys2Proof.Machine
end

section
/-! The start of an operation: what the rise latches, and the rise sample as the operation's first (R29, R30, R33, R34). -/

namespace Sys2Proof.Machine

/-- What the start of an operation latches (R33, R34). -/
def State.latch (s : State) (st : Fin 6) : OpKind → Latched
  | .pass => s.latchPass st
  | .dress => s.latchDress st

/-- A monitor in which an operation stands that started at this sample, with the filter as it is after the sample. -/
def Monitor.begun (m : Monitor) (raw : Lines) (x : MonitorState) (l : Latched) : Monitor :=
  { m with filtered := m.filteredNext raw, differing := Lines.low }.start x l

/-- A line that has just taken its raw level does not differ; any other differs as it did. -/
theorem differs_filterLine (f d r : Bool) : differs (filterLine f d r) false r = differs f d r := by
  cases f <;> cases d <;> cases r <;> rfl

/-- The filter's step changes of a begun operation the differing lines alone. -/
theorem Monitor.filterStep_begun {m : Monitor} (hp : m.primed = true) (raw : Lines) (x : MonitorState) (l : Latched) :
    (m.begun raw x l).filterStep raw = (m.filterStep raw).start x l := by
  have again : (m.begun raw x l).differingNext raw = m.differingNext raw := by
    unfold differingNext
    congr 1 <;> exact differs_filterLine ..
  rw [filterStep_of_primed (m := m.begun raw x l) hp, again, filterStep_of_primed hp]
  rfl

namespace State

variable {s : State} {st : Fin 6} {raw : Lines} {k : OpKind}

/-- The state in which the work of an operation's first sample is done. -/
def startedAt (s : State) (st : Fin 6) (raw : Lines) (k : OpKind) : State :=
  s.setMonitor st (((s.monitor st).filterStep raw).start k.state ((s.filterTo st raw).latch st k))

theorem startedAt_eq (s : State) (st : Fin 6) (raw : Lines) (k : OpKind) :
    s.startedAt st raw k = (s.filterTo st raw).start st k := by
  have read := s.filterTo_monitor st raw
  have started : (s.filterTo st raw).start st k =
      (s.filterTo st raw).modifyMonitor st fun m => m.start k.state ((s.filterTo st raw).latch st k) := by
    cases k <;> rfl
  rw [started, modifyMonitor, read]
  exact (s.setMonitor_setMonitor st _ _).symm

theorem startedAt_monitor (s : State) (st : Fin 6) (raw : Lines) (k : OpKind) : (s.startedAt st raw k).monitor st =
    ((s.monitor st).filterStep raw).start k.state ((s.filterTo st raw).latch st k) :=
  (setMonitor_monitor ..).trans (if_pos rfl)

/-- The work of an operation's first sample is that of every sample of it. -/
theorem startedAt_work (s : State) (st : Fin 6) (raw : Lines) (k : OpKind) (power ae : Code) :
    (s.startedAt st raw k).sampleWork st power ae =
      (s.startedAt st raw k).operationWork st ((s.filterTo st raw).latch st k) power ae := by
  refine sampleWork_operating ?_ (by rw [startedAt_monitor]; rfl) power ae
  rw [startedAt_monitor]
  cases k
  · exact .inl rfl
  · exact .inr rfl

/-- A sample in IDLE at which one operation starts (R33, R34). -/
theorem takeSample_starts (hst : (s.monitor st).state = .idle) (hpart : ((s.monitor st).edges raw).partRise = false)
    (hrise : ((s.monitor st).edges raw).otherRise k.other = true) (hother : ((s.monitor st).edges raw).otherRise k = false)
    (power ae : Code) : s.takeSample st power ae raw = (s.startedAt st raw k).sampleWork st power ae := by
  have idle : ((s.filterTo st raw).monitor st).state = .idle := by rw [filterTo_monitor, Monitor.filterStep_state, hst]
  have falls : (s.filterTo st raw).takeFalls st ((s.monitor st).edges raw) = s.filterTo st raw :=
    takeFalls_stands (fun h => absurd (idle.symm.trans h) (by decide)) fun h => absurd (idle.symm.trans h) (by decide)
  have rises : (s.filterTo st raw).takeRises st ((s.monitor st).edges raw) = (s.filterTo st raw).start st k := by
    cases k
    · exact takeRises_pass _ idle hrise hother
    · exact takeRises_dress _ idle hother hrise
  rw [takeSample_eq (by rw [hst]; decide), falls, takePartEnd_stands hpart, bothLowTest_stands (by rw [idle]; decide), rises,
    startedAt_eq]

/-- A sample of an operation that stands begun in the monitor is that of the sample at which it starts. -/
theorem takeSample_begun (hp : (s.monitor st).primed = true) (power ae : Code) :
    (s.setMonitor st ((s.monitor st).begun raw k.state ((s.filterTo st raw).latch st k))).takeSample st power ae raw =
      (s.startedAt st raw k).sampleWork st power ae := by
  generalize hl : (s.filterTo st raw).latch st k = l
  have read : (s.setMonitor st ((s.monitor st).begun raw k.state l)).monitor st = (s.monitor st).begun raw k.state l :=
    (setMonitor_monitor ..).trans (if_pos rfl)
  have state : ((s.setMonitor st ((s.monitor st).begun raw k.state l)).monitor st).state = k.state := by rw [read]; rfl
  have edges : ((s.setMonitor st ((s.monitor st).begun raw k.state l)).monitor st).edges raw =
      ⟨false, false, false, false, false⟩ := by
    rw [read, Monitor.edges_of_primed (m := (s.monitor st).begun raw k.state l) hp]
    simp [Monitor.begun, Monitor.start, Lines.low]
  have filtered : (s.setMonitor st ((s.monitor st).begun raw k.state l)).filterTo st raw = s.startedAt st raw k := by
    rw [filterTo, modifyMonitor, setMonitor_setMonitor, read, Monitor.filterStep_begun hp, startedAt, hl]
  rw [takeSample_running state (by rw [edges]; cases k <;> rfl) (by rw [edges]), edges,
    takeRises_operating (k := k) (by rw [filterTo_monitor, Monitor.filterStep_state, state]) (by cases k <;> rfl), filtered]

end State

/-- What a started operation's first sample leaves of its monitor (R29, R30, R87). -/
theorem Monitor.worked_first (m : Monitor) (x : MonitorState) (l : Latched) (power ae : Code) (index : Nat) {w : Monitor}
    (hw : w = (m.start x l).worked l power ae index) :
    w.state = x ∧ w.op = some l ∧ w.sampleCount = 1 ∧ w.blanking = l.blank - 1 ∧
      w.energy = (if l.kind = .pass ∧ l.tool ≠ 0 ∧ m.power.fault = false then power.toNat else 0) ∧
      (l.kind = .pass → w.powerFaultMark = w.power.fault) ∧ (l.kind = .dress → x = .dress → w.powerFaultMark = false) ∧
      (0 < l.blank → w.burstCounter = 0 ∧ w.runPeak = 0 ∧ w.burstDone = false) := by
  obtain ⟨p, a, mark, done, counter, peak, h, blanked, pass, dress⟩ := (m.start x l).worked_writes l power ae index
  rw [← hw] at h
  subst h
  have small : satAdd32 0 power.toNat = power.toNat := by
    have := power.isLt
    unfold satAdd32 max32
    omega
  refine ⟨rfl, rfl, rfl, rfl, ?_, fun hk => pass hk rfl, fun hk hx => dress hk hx, fun hb => ?_⟩
  · dsimp only [Monitor.start]
    rw [small]
    simp only [Latched.live_iff]
  · have unchecked : (l.live && decide ((m.start x l).blanking = 0)) = false := by
      rw [Bool.and_eq_false_iff]
      exact .inr (decide_eq_false (Nat.pos_iff_ne_zero.1 hb))
    obtain ⟨rfl, rfl, rfl⟩ := blanked unchecked
    exact ⟨rfl, rfl, rfl⟩

/-- Settles O13: the rise sample is the filter's step, the start, and the work of the operation's first sample; from the
monitor in which the operation stands begun, the same sample does the same. -/
theorem operationStartLatches : Obligations.OperationStartLatches := by
  intro s st power ae raw hp hst hprimed hfp hfd hpart
  refine ⟨_, exec_sample hp st power ae raw, ?_⟩
  have edges := Monitor.edges_of_primed hprimed raw
  have noPart : ((s.monitor st).edges raw).partRise = false := by rw [edges]; simpa [and_assoc] using hpart
  have riseOf : ∀ k : OpKind, ((s.monitor st).edges raw).otherRise k =
      (k.other.line (s.monitor st).differing && k.other.line raw) := by
    intro k
    rw [edges]
    cases k
    · simp [Edges.otherRise, OpKind.line, OpKind.other, hfd]
    · simp [Edges.otherRise, OpKind.line, OpKind.other, hfp]
  have first : ∀ k : OpKind, (k.line (s.monitor st).differing && k.line raw) = true →
      (k.other.line (s.monitor st).differing && k.other.line raw) = false →
      ∃ t l, (s.withJournal []).takeSample st power ae raw = t ∧ l = ((s.withJournal []).filterTo st raw).latch st k ∧
        t.monitor st = (((s.monitor st).filterStep raw).start k.state l).worked l power ae (s.capture st).next ∧
        exec (.sample st power ae raw) s =
          exec (.sample st power ae raw) (s.setMonitor st ((s.monitor st).begun raw k.state l)) := by
    intro k own other
    have starts := State.takeSample_starts (s := s.withJournal []) (k := k) hst noPart
      ((riseOf k.other).trans (by cases k <;> exact own)) ((riseOf k).trans other) power ae
    refine ⟨_, _, rfl, rfl, ?_, ?_⟩
    · rw [starts, State.startedAt_work, State.operationWork_monitor, State.startedAt_monitor]
      rfl
    · rw [exec_sample hp, starts, exec_sample (s := s.setMonitor st _) hp]
      exact congrArg Host.Outcome.next (State.takeSample_begun (s := s.withJournal []) hprimed power ae).symm
  have clear : ((s.monitor st).filterStep raw).power = (s.monitor st).power := by rw [Monitor.filterStep_of_primed hprimed]
  have filtered : (((s.withJournal []).filterTo st raw).monitor st).filtered = (s.monitor st).filteredNext raw := by
    rw [State.filterTo_monitor, Monitor.filterStep_of_primed (m := (s.withJournal []).monitor st) hprimed]
    rfl
  refine ⟨fun own other => ?_, fun own other => ?_⟩
  · obtain ⟨t, l, ht, rfl, hm, starts⟩ := first .pass own other
    obtain ⟨state, op, count, blanking, energy, mark, -, run⟩ := Monitor.worked_first _ _ _ power ae _ hm
    rw [ht, op, state, count, blanking, energy, mark rfl, clear]
    refine ⟨rfl, rfl, rfl, ?_, congrArg some ?_, rfl, run, starts⟩
    · simp only [State.latch, State.latchPass, Latched.tool, true_and]
      rfl
    · unfold State.latch State.latchPass
      rw [filtered]
      rfl
  · obtain ⟨t, l, ht, rfl, hm, starts⟩ := first .dress own other
    obtain ⟨state, op, count, blanking, energy, -, mark, run⟩ := Monitor.worked_first _ _ _ power ae _ hm
    rw [ht, op, state, count, blanking, energy, mark rfl rfl]
    exact ⟨rfl, rfl, rfl, rfl, rfl, rfl, run, starts⟩

end Sys2Proof.Machine
end

section
/-! A part end at a sample: the end of the operation in progress, the two positions, and the monitor (R40, R132, R139). -/

namespace Sys2Proof.Machine

/-! ### A position at a part end -/

/-- A rescan that finds a member reserves it as a selection does; one that finds none leaves a RUN_ON position below its
ceiling (R132). -/
theorem State.rescan_eq {u : State} {p : Fin 12} {x : Tool} {g : Group} (hx : u.tool? (u.position p).active = some x)
    (hg : u.groupOf x = some g) : u.rescan p =
      if u.scan g = none then
        if g.action = .runOn ∧ x.used < x.overrunCeiling g.overrunPercent then u else u.waitFor p x.group
      else u.selection p := by
  obtain ⟨h0, hget⟩ := Moves.groupOf_some hg
  unfold rescan
  rw [hx]
  dsimp only
  rw [hg]
  dsimp only
  cases hs : u.scan g with
  | none => rfl
  | some i =>
    rw [if_neg (Option.some_ne_none i)]
    exact (selection_chooses hx h0 hget hs).symm

namespace State

variable {s : State} {st : Fin 6} {raw : Lines}

/-! ### The sample -/

theorem takeRises_quiet {e : Edges} (hp : e.passRise = false) (hd : e.dressRise = false) : s.takeRises st e = s := by
  unfold takeRises
  rw [hp, hd]
  split <;> rfl

/-- The state of a monitor before the both-low test at a part end (R40). -/
def afterPart : MonitorState → MonitorState
  | .pass => .settling
  | .dress => .settling
  | .off => .off
  | .settling => .settling
  | .idle => .idle
  | .conflict => .conflict

theorem afterPart_eq (x : MonitorState) : afterPart x = if x = .pass ∨ x = .dress then .settling else x := by
  cases x <;> rfl

/-- The end of the operation in progress at a part end, if there is one (R40). -/
def endedAtPart (s : State) (st : Fin 6) : State :=
  if (s.monitor st).state = .pass ∨ (s.monitor st).state = .dress then s.endProcessing st else s

/-- From states alike, in which the same operation stands, its end is processed the same in the state after the filter. -/
theorem alike_endProcessing (hp : (s.monitor st).primed = true) (x : MonitorState) :
    Alike s.journal s.journal (s.endProcessing st) (((s.filterTo st raw).monitorTo st x).endProcessing st) := by
  have alike : Alike s.journal s.journal s ((s.filterTo st raw).monitorTo st x) :=
    ⟨((s.filterTo st raw).monitorTo st x).monitors, [], rfl, rfl⟩
  have monitor : ((s.filterTo st raw).monitorTo st x).monitor st = { (s.monitor st).filterStep raw with state := x } := by
    rw [monitorTo_monitor, filterTo_monitor]
  rw [Monitor.filterStep_of_primed hp] at monitor
  exact alike.endProcessing (by rw [monitor]) (by rw [monitor]) (by rw [monitor]; rfl)

/-- A part end in the state after the filter: the monitor it leaves, and that it does what it would do before the sample. -/
theorem takePartEnd_leaves (on : (s.monitor st).state ≠ .off) (hp : (s.monitor st).primed = true) {e : Edges}
    (hpart : e.partRise = true) :
    Alike s.journal s.journal ((s.endedAtPart st).partEnd st) ((s.filterTo st raw).takePartEnd st e) ∧
      ∃ a, ((s.filterTo st raw).takePartEnd st e).monitor st =
        { (s.monitor st).filterStep raw with state := afterPart (s.monitor st).state, air := a } := by
  have state : ((s.filterTo st raw).monitor st).state = (s.monitor st).state := by
    rw [filterTo_monitor, Monitor.filterStep_state]
  obtain ⟨a, settled⟩ := (s.filterTo st raw).finish_monitor st .settling
  rw [filterTo_monitor] at settled
  have ends := alike_endProcessing (raw := raw) hp .settling
  have rests : Alike s.journal s.journal s (s.filterTo st raw) := ⟨(s.filterTo st raw).monitors, [], rfl, rfl⟩
  have stays : afterPart (s.monitor st).state = (s.monitor st).state →
      ((s.filterTo st raw).partEnd st).monitor st =
        { (s.monitor st).filterStep raw with state := afterPart (s.monitor st).state, air := (s.monitor st).air } := by
    intro h
    rw [partEnd_monitor, filterTo_monitor, h, Monitor.filterStep_of_primed hp]
  unfold takePartEnd endedAtPart
  rw [if_pos hpart, state]
  cases h : (s.monitor st).state with
  | off => exact absurd h on
  | pass => exact ⟨ends.partEnd st, a, (partEnd_monitor ..).trans settled⟩
  | dress => exact ⟨ends.partEnd st, a, (partEnd_monitor ..).trans settled⟩
  | settling => rw [h] at stays; exact ⟨rests.partEnd st, _, stays rfl⟩
  | idle => rw [h] at stays; exact ⟨rests.partEnd st, _, stays rfl⟩
  | conflict => rw [h] at stays; exact ⟨rests.partEnd st, _, stays rfl⟩

/-- A sample at which a part ends and neither line changes: after the part end come the both-low test and the capture write
(R27, R40). -/
theorem takeSample_parts (on : (s.monitor st).state ≠ .off) (hp : (s.monitor st).primed = true)
    (hpart : ((s.monitor st).edges raw).partRise = true) (hdp : (s.monitor st).differing.pass = false)
    (hdd : (s.monitor st).differing.dress = false) (power ae : Code) :
    ∃ w a, s.takeSample st power ae raw = w.captureWrite st (power, ae) ∧
      Alike s.journal s.journal ((s.endedAtPart st).partEnd st) w ∧
      w.monitor st = { (s.monitor st).filterStep raw with
        state :=
          if (s.monitor st).state = .idle ∨ (s.monitor st).filtered.pass = false ∧ (s.monitor st).filtered.dress = false then
            .idle
          else afterPart (s.monitor st).state
        air := a } := by
  have edges := Monitor.edges_of_primed hp raw
  rw [hdp, hdd] at edges
  have noPass : ((s.monitor st).edges raw).passRise = false := by rw [edges]; simp
  have noDress : ((s.monitor st).edges raw).dressRise = false := by rw [edges]; simp
  have falls : (s.filterTo st raw).takeFalls st ((s.monitor st).edges raw) = s.filterTo st raw :=
    takeFalls_stands (fun _ => by rw [edges]; simp) fun _ => by rw [edges]; simp
  obtain ⟨alike, a, monitor⟩ := takePartEnd_leaves on hp hpart
  rw [takeSample_eq on, falls]
  generalize (s.filterTo st raw).takePartEnd st ((s.monitor st).edges raw) = u at alike monitor ⊢
  rw [Monitor.filterStep_of_primed hp] at monitor ⊢
  have low : (u.monitor st).filtered.pass = false ∧ (u.monitor st).filtered.dress = false ↔
      (s.monitor st).filtered.pass = false ∧ (s.monitor st).filtered.dress = false := by
    rw [monitor]
    dsimp only [Monitor.filteredNext]
    rw [hdp, hdd]
    rfl
  have tested : Alike s.journal s.journal ((s.endedAtPart st).partEnd st) (u.bothLowTest st) ∧
      (u.bothLowTest st).monitor st = { u.monitor st with
        state :=
          if (s.monitor st).state = .idle ∨ (s.monitor st).filtered.pass = false ∧ (s.monitor st).filtered.dress = false then
            .idle
          else afterPart (s.monitor st).state } := by
    by_cases idle : (s.monitor st).state = .idle
    · have state : (u.monitor st).state = .idle := by rw [monitor, idle]; rfl
      rw [bothLowTest_stands (by rw [state]; decide), if_pos (.inl idle), ← state]
      exact ⟨alike, rfl⟩
    · have state : (u.monitor st).state = afterPart (s.monitor st).state := by rw [monitor]
      have waits : (u.monitor st).state = .settling ∨ (u.monitor st).state = .conflict := by
        rw [state]
        cases h : (s.monitor st).state <;> first | exact .inl rfl | exact .inr rfl | contradiction
      rw [bothLowTest_eq waits, monitorTo_monitor, state]
      simp only [low, idle, false_or]
      exact ⟨alike.withMonitors_right _, trivial⟩
  obtain ⟨alike', monitor'⟩ := tested
  have rests : ((u.bothLowTest st).monitor st).state ≠ .off ∧ ((u.bothLowTest st).monitor st).state ≠ .pass ∧
      ((u.bothLowTest st).monitor st).state ≠ .dress := by
    rw [monitor']
    dsimp only
    split
    · decide
    · cases h : (s.monitor st).state <;> first | decide | contradiction
  refine ⟨u.bothLowTest st, a, ?_, alike', by rw [monitor', monitor]⟩
  rw [takeRises_quiet noPass noDress, sampleWork_resting rests.1 rests.2.1 rests.2.2]

end State

/-- From a state alike in monitors alone, a capture write leaves the monitors and the ring of its station alone changed. -/
theorem Alike.captureWrite {j : List Commit} {v w : State} (h : Alike j j v w) (st : Fin 6) (pair : Code × Code) :
    onlyChanges [.monitors, .captures] v (w.captureWrite st pair) ∧
      oneBecomes st ((v.capture st).write pair) v.captures (w.captureWrite st pair).captures := by
  have frame : onlyChanges [.monitors, .captures] w (w.captureWrite st pair) := fun y hy => by
    cases y <;> first | rfl | simp at hy
  have same : w.captures = v.captures := h.same (x := .captures) (by decide) (by decide)
  have capture : w.capture st = v.capture st := congrArg (·[st]) same
  refine ⟨onlyChanges_trans (onlyChanges_mono h.frame_monitors (by decide)) frame, ?_⟩
  rw [← same, ← capture]
  exact oneBecomes_set _ _ _

/-- Settles O38: the part end and the end of the operation read nothing of the monitor that the filter's step or the move to
SETTLING writes, so they do what they would do before the sample. -/
theorem partEndSelectsAndRescans : Obligations.PartEndSelectsAndRescans := by
  constructor
  · rintro s e st power ae raw m hp rfl on hprimed hpf hpd hpr hdp hdd he at' hat
    have parts : ∀ u p, at' u p = u.partEndAt p := by
      intro u p
      rw [hat]
      unfold State.partEndAt
      cases (u.position p).state with
      | runOn =>
        dsimp only
        cases hx : u.tool? (u.position p).active with
        | none => unfold State.rescan; rw [hx]
        | some x =>
          dsimp only
          cases hg : u.groupOf x with
          | none => unfold State.rescan; rw [hx]; dsimp only; rw [hg]
          | some g => exact (State.rescan_eq hx hg).symm
      | _ => rfl
    have rise : ((s.monitor st).edges raw).partRise = true := by
      rw [Monitor.edges_of_primed hprimed raw, hpf, hpd, hpr]; rfl
    obtain ⟨w, a, sampled, alike, monitor⟩ := State.takeSample_parts (s := s.withJournal []) on hprimed rise hdp hdd power ae
    have ended : (s.withJournal []).endedAtPart st = e := he.symm
    rw [ended] at alike
    obtain ⟨frame, captures⟩ := alike.captureWrite st (power, ae)
    have read : (w.captureWrite st (power, ae)).monitor st = _ := monitor
    refine ⟨_, _, exec_sample hp st power ae raw, rfl, ?_⟩
    rw [sampled, parts, parts, read]
    refine ⟨frame, ?_, Monitor.filterStep_op .., captures⟩
    simp only [State.withJournal_monitor]
    rw [State.afterPart_eq]
    rfl
  · rintro s st power ae raw m hp rfl hprimed hfall hpart
    have noPart : false = (!(s.monitor st).filtered.partEnd && (s.monitor st).differing.partEnd && raw.partEnd) := by
      simpa [and_assoc] using hpart
    obtain ⟨k, ends⟩ : ∃ k, EndsAt (s.withJournal []) st raw k true false false := by
      rcases hfall with ⟨hst, hf, hd, hr, hother⟩ | ⟨hst, hf, hd, hr, hother⟩
      · exact ⟨.pass, hst, hprimed, hf, by simp [OpKind.line, hd, hr], noPart, rfl, by simp [OpKind.line, OpKind.other, hother]⟩
      · exact ⟨.dress, hst, hprimed, hf, by simp [OpKind.line, hd, hr], noPart, rfl, by simp [OpKind.line, OpKind.other, hother]⟩
    have alike := State.alike_endProcessing (s := s.withJournal []) (st := st) (raw := raw) hprimed .idle
    obtain ⟨frame, captures⟩ := alike.captureWrite st (power, ae)
    refine ⟨_, _, exec_sample hp st power ae raw, rfl, ?_⟩
    have state := ends.monitor_state power ae
    rw [ends.quiet power ae rfl rfl] at state ⊢
    exact ⟨frame, state, captures⟩

end Sys2Proof.Machine
end

section
/-! A sample is the work of one station: nothing of another station's monitor, ring, incident and flags is written (R28). -/

namespace Sys2Proof.Machine

/-- The records of every station but `st` stand: monitors, captures, incidents and flags. -/
structure KeepsOthers (st : Fin 6) (s t : State) : Prop where
  others : ∀ other : Fin 6, other ≠ st → t.monitor other = s.monitor other ∧ t.capture other = s.capture other ∧
    t.incident other = s.incident other ∧ t.flag other = s.flag other

namespace KeepsOthers

variable {st : Fin 6}

theorem refl (s : State) : KeepsOthers st s s := ⟨fun _ _ => ⟨rfl, rfl, rfl, rfl⟩⟩

theorem trans {s t u : State} (h : KeepsOthers st s t) (k : KeepsOthers st t u) : KeepsOthers st s u := ⟨fun other ne => by
  obtain ⟨hm, hc, hi, hf⟩ := h.others other ne
  obtain ⟨km, kc, ki, kf⟩ := k.others other ne
  exact ⟨km.trans hm, kc.trans hc, ki.trans hi, kf.trans hf⟩⟩

theorem ite {s t u : State} {c : Prop} [Decidable c] (h : KeepsOthers st s t) (k : KeepsOthers st s u) :
    KeepsOthers st s (if c then t else u) := by
  split <;> assumption

/-- The swap controller and the sister selector write no record of a station. -/
theorem of_swaps {s t : State} (h : onlyChanges swapParts s t) : KeepsOthers st s t := ⟨fun other _ =>
  ⟨congrArg (·[other]) (h .monitors (by decide)), congrArg (·[other]) (h .captures (by decide)),
    congrArg (·[other]) (h .incidents (by decide)), congrArg (·[other]) (h .flags (by decide))⟩⟩

variable (s : State)

theorem setMonitor (m : Monitor) : KeepsOthers st s (s.setMonitor st m) := ⟨fun _ ne =>
  ⟨(State.setMonitor_monitor ..).trans (if_neg ne), rfl, rfl, rfl⟩⟩

theorem modifyMonitor (f : Monitor → Monitor) : KeepsOthers st s (s.modifyMonitor st f) := setMonitor s _

theorem setCapture (c : Capture) : KeepsOthers st s (s.setCapture st c) := ⟨fun _ ne =>
  ⟨rfl, (State.setCapture_capture ..).trans (if_neg ne), rfl, rfl⟩⟩

theorem setIncident (i : Incident) : KeepsOthers st s (s.setIncident st i) := ⟨fun _ ne =>
  ⟨rfl, rfl, (State.setIncident_incident ..).trans (if_neg ne), rfl⟩⟩

theorem setFlag (f : StationFlags) : KeepsOthers st s (s.setFlag st f) := ⟨fun _ ne =>
  ⟨rfl, rfl, rfl, (State.setFlag_flag ..).trans (if_neg ne)⟩⟩

theorem notify (u : Bool) (k : NoticeKind) (x : Option (Fin 6)) (pk : Option Kind) (n a b : Nat) :
    KeepsOthers st s (s.notify u k x pk n a b) := ⟨fun _ _ => ⟨rfl, rfl, rfl, rfl⟩⟩

theorem commit (ws : List RetainedWrite) : KeepsOthers st s (s.commit ws) := ⟨fun _ _ => ⟨rfl, rfl, rfl, rfl⟩⟩

/-! ### Detections -/

theorem openIncident {d : Detection} (h : d.station = st) (r : Response) : KeepsOthers st s (s.openIncident d r) := by
  subst h
  exact ((setIncident ..).trans (notify ..)).trans (setCapture ..)

theorem respond {d : Detection} (h : d.station = st) : KeepsOthers st s (s.respond d) := by
  unfold State.respond
  split
  · exact refl s
  · exact notify ..
  · exact openIncident s h _
  · exact (openIncident s h _).trans (of_swaps (State.breakTool_swaps _ _))

theorem takeDetection {d : Detection} (h : d.station = st) : KeepsOthers st s (s.takeDetection d) := by
  have tallied : KeepsOthers st s (s.tally d) :=
    of_swaps (onlyChanges_mono (s.modifyTool_frame d.tool _) (by decide))
  refine tallied.trans (ite ?_ (respond _ h))
  subst h
  exact setIncident ..

/-! ### The end of an operation and the part end -/

theorem judged (e : PassEnd) (x : Tool) : KeepsOthers st s (s.judged st e x) := by
  unfold State.judged State.stepAir
  have moved := (s.commit [s.oldTool e.wheel]).moveReference_frame st e x
  exact ((commit s _).trans (of_swaps (onlyChanges_mono moved (by decide)))).trans (modifyMonitor _ _)

theorem raiseAtPassEnd (e : PassEnd) (found : Option (DetClass × Nat)) :
    KeepsOthers st s (s.raiseAtPassEnd st e found) := by
  unfold State.raiseAtPassEnd
  split
  · exact takeDetection s rfl
  · exact refl s

theorem passEnd (e : PassEnd) : KeepsOthers st s (s.passEnd st e) := by
  cases h : s.tool? e.wheel with
  | none =>
    unfold State.passEnd
    rw [h]
    exact refl s
  | some x =>
    rw [State.passEnd_eq h]
    exact ((judged s e x).trans (raiseAtPassEnd ..)).trans (of_swaps (State.chargePass_swaps _ _ _))

theorem endProcessing : KeepsOthers st s (s.endProcessing st) := by
  unfold State.endProcessing
  dsimp only
  split
  · exact refl s
  · refine ite ?_ (refl s)
    split
    · exact passEnd s _
    · exact of_swaps (s.dressEnd_swaps _)

theorem finish (x : MonitorState) : KeepsOthers st s (s.finish st x) := (modifyMonitor s _).trans (endProcessing _)

theorem partEnd (x : Fin 6) : KeepsOthers st s (s.partEnd x) :=
  of_swaps ((Worked.partEnd s x).swaps (State.partEnd_monitors ..) (State.partEnd_captures ..) (State.partEnd_incidents ..)
    (State.partEnd_flags ..))

/-! ### The stages of a sample -/

theorem takeFalls (e : Edges) : KeepsOthers st s (s.takeFalls st e) := by
  unfold State.takeFalls
  split
  · exact ite (finish s _) (refl s)
  · exact ite (finish s _) (refl s)
  all_goals exact refl s

theorem takePartEnd (e : Edges) : KeepsOthers st s (s.takePartEnd st e) := by
  unfold State.takePartEnd
  refine ite ?_ (refl s)
  split
  · exact (finish s _).trans (partEnd _ st)
  · exact (finish s _).trans (partEnd _ st)
  · exact partEnd s st
  · exact partEnd s st
  · exact partEnd s st
  · exact refl s

theorem bothLowTest : KeepsOthers st s (s.bothLowTest st) := ite (modifyMonitor s _) (refl s)

theorem signalConflict (k : Option OpKind) : KeepsOthers st s (s.signalConflict st k) := by
  refine (modifyMonitor s fun m => { m with state := .conflict }).trans ?_
  unfold State.signalConflict
  dsimp only
  split <;> exact notify ..

theorem takeRises (e : Edges) : KeepsOthers st s (s.takeRises st e) := by
  unfold State.takeRises
  split
  · split
    · exact signalConflict s none
    · exact modifyMonitor s _
    · exact modifyMonitor s _
    · exact refl s
  · exact ite (signalConflict s _) (refl s)
  · exact ite (signalConflict s _) (refl s)
  all_goals exact refl s

theorem takeBurst : KeepsOthers st s (s.takeBurst st) := by
  rcases s.takeBurst_cases st with ⟨_, h⟩ | ⟨l, _, h⟩ <;> rw [h]
  · exact refl s
  · exact ((setMonitor s _).trans (commit ..)).trans (takeDetection _ rfl)

theorem takeChannelFault (c : Channel) : KeepsOthers st s (s.takeChannelFault st c) := by
  cases h : (s.monitor st).stuckOn c with
  | none => rw [State.takeChannelFault_of_none h]; exact refl s
  | some code =>
    rw [State.takeChannelFault_of_some h]
    exact ((setMonitor s _).trans (setFlag ..)).trans (notify ..)

theorem operationWork (l : Latched) (power ae : Code) : KeepsOthers st s (s.operationWork st l power ae) := by
  have burst : ∀ u : State, KeepsOthers st u (u.burstStage st l ae) := fun u => (modifyMonitor u _).trans (takeBurst _)
  have stuck : ∀ u : State, KeepsOthers st u (u.stuckStage st power ae) := fun u =>
    ((modifyMonitor u _).trans (takeChannelFault ..)).trans ((modifyMonitor ..).trans (takeChannelFault ..))
  have counted : KeepsOthers st s ((s.captureWrite st (power, ae)).modifyMonitor st fun m => m.count (s.capture st).next) :=
    (setCapture s _).trans (modifyMonitor ..)
  exact (((counted.trans (ite (burst _) (refl _))).trans (ite (modifyMonitor ..) (refl _))).trans
    (ite (stuck _) (refl _))).trans (ite (modifyMonitor ..) (refl _))

theorem sampleWork (power ae : Code) : KeepsOthers st s (s.sampleWork st power ae) := by
  unfold State.sampleWork
  split
  · exact refl s
  · exact setCapture s _
  · exact setCapture s _
  · exact setCapture s _
  all_goals
    split
    · exact operationWork s _ power ae
    · exact setCapture s _

/-- A sample keeps to its station (R28). -/
theorem takeSample (power ae : Code) (raw : Lines) : KeepsOthers st s (s.takeSample st power ae raw) :=
  ite (refl s) ((((((modifyMonitor s _).trans (takeFalls ..)).trans (takePartEnd ..)).trans (bothLowTest _)).trans
    (takeRises ..)).trans (sampleWork _ power ae))

end KeepsOthers

end Sys2Proof.Machine
end

section
/-! The two checks of a running operation, field by field: the burst check's run and the stuck check's channels (R88, R89,
R90, R99, R100). -/

namespace Sys2Proof.Machine

/-! ### The stuck check of a channel -/

namespace ChannelState

/-- A channel after a code was given to its stuck check, with the latch the code may bring (R100). -/
def stepped (x : ChannelState) (window : Nat) (code : Code) : ChannelState :=
  if x.fault = true then x
  else if x.previous = some code then
    if x.stuck + 1 < window then { x with stuck := x.stuck + 1 } else latched
  else ⟨some code, 0, false⟩

/-- The code latches the channel. -/
def latches (x : ChannelState) (window : Nat) (code : Code) : Bool := (x.stepped window code).fault && !x.fault

/-- The code on which the channel is found stuck (R100). -/
def found (x : ChannelState) (window : Nat) : Option Code :=
  if x.fault = false ∧ 0 < x.stuck ∧ window ≤ x.stuck then x.previous else none

variable {x : ChannelState} {window : Nat} {code : Code}

/-- A channel with a fault takes no code. -/
theorem check_of_fault (h : x.fault = true) : (x.check code).found window = none ∧ x.check code = x ∧
    x.stepped window code = x := by
  simp [check, found, stepped, h]

/-- The code that a channel had before raises its counter; at the stale window that is a latch. -/
theorem check_of_same (h : x.fault = false) (hp : x.previous = some code) :
    x.check code = { x with stuck := x.stuck + 1 } ∧
      (x.check code).found window = (if x.stuck + 1 < window then none else some code) ∧
      x.stepped window code = if x.stuck + 1 < window then { x with stuck := x.stuck + 1 } else latched := by
  have raised : x.check code = { x with stuck := x.stuck + 1 } := by simp [check, h, hp]
  refine ⟨raised, ?_, by simp [stepped, h, hp]⟩
  rw [raised, found]
  by_cases stale : x.stuck + 1 < window
  · rw [if_pos stale, if_neg fun found => absurd stale (Nat.not_lt.2 found.2.2)]
  · rw [if_neg stale, if_pos ⟨h, Nat.succ_pos _, Nat.not_lt.1 stale⟩, hp]

/-- Any other code starts the counter again. -/
theorem check_of_other (h : x.fault = false) (hp : x.previous ≠ some code) (h0 : x.previous = none → x.stuck = 0) :
    x.check code = ⟨some code, 0, false⟩ ∧ (x.check code).found window = none ∧
      x.stepped window code = ⟨some code, 0, false⟩ := by
  have starts : x.check code = ⟨some code, 0, false⟩ := by
    unfold check
    rw [if_neg (by rw [h]; decide)]
    split
    · next hn => rw [h, h0 hn]
    · next p hs =>
      have ne : code ≠ p := fun e => hp (e ▸ hs)
      rw [if_neg ne, h]
  refine ⟨starts, by simp [starts, found], by simp [stepped, h, hp]⟩

theorem latches_iff_found (h0 : x.previous = none → x.stuck = 0) :
    (x.check code).found window = if x.latches window code then some code else none := by
  unfold latches
  cases h : x.fault with
  | true =>
    obtain ⟨found, -, -⟩ := check_of_fault (code := code) (window := window) h
    rw [found, Bool.not_true, Bool.and_false]
    rfl
  | false =>
    by_cases hp : x.previous = some code
    · obtain ⟨-, found, stepped⟩ := check_of_same (window := window) h hp
      rw [found, stepped]
      split
      · rw [h]; rfl
      · rfl
    · obtain ⟨-, found, stepped⟩ := check_of_other (window := window) h hp h0
      rw [found, stepped]
      rfl

/-- The model's check and latch of one code are one step. -/
theorem check_latched (h0 : x.previous = none → x.stuck = 0) :
    (if x.latches window code then latched else x.check code) = x.stepped window code := by
  unfold latches
  cases h : x.fault with
  | true =>
    obtain ⟨-, check, stepped⟩ := check_of_fault (code := code) (window := window) h
    rw [check, stepped, Bool.not_true, Bool.and_false]
    rfl
  | false =>
    by_cases hp : x.previous = some code
    · obtain ⟨check, -, stepped⟩ := check_of_same (window := window) h hp
      rw [check, stepped]
      split
      · rw [h]; rfl
      · rfl
    · obtain ⟨check, -, stepped⟩ := check_of_other (window := window) h hp h0
      rw [check, stepped]
      rfl

end ChannelState

namespace Monitor

variable {m : Monitor} {l : Latched}

theorem stuckOn_found (hop : m.op = some l) (hm : m.state = .pass ∨ m.state = .dress) (c : Channel) :
    m.stuckOn c = (m.channel c).found l.staleWindow := stuckOn_eq hop hm c

/-- The code of a sample latches a channel exactly where its step sets the flag. -/
theorem stuckCheck_stuckOn (hop : m.op = some l) (hm : m.state = .pass ∨ m.state = .dress) {c : Channel} (code : Code)
    (h0 : (m.channel c).previous = none → (m.channel c).stuck = 0) :
    (m.stuckCheck c code).stuckOn c = if (m.channel c).latches l.staleWindow code then some code else none := by
  rw [← ChannelState.latches_iff_found h0]
  cases c
  · exact stuckOn_found (m := m.stuckCheck .power code) hop hm .power
  · exact stuckOn_found (m := m.stuckCheck .ae code) hop hm .ae

theorem stuckStep_power (hop : m.op = some l) (hm : m.state = .pass ∨ m.state = .dress)
    (h0 : m.power.previous = none → m.power.stuck = 0) (code : Code) : m.stuckStep .power code =
      m.withChannels (m.power.stepped l.staleWindow code) m.ae
        (m.powerFaultMark || m.power.latches l.staleWindow code && m.state == .pass) m.burstCounter m.runPeak := by
  have latch : (m.stuckCheck .power code).stuckOn .power = if m.power.latches l.staleWindow code then some code else none :=
    stuckCheck_stuckOn (c := .power) hop hm code h0
  unfold stuckStep
  rw [faultTaken_power, latch, ← ChannelState.check_latched h0]
  cases m.power.latches l.staleWindow code <;> rfl

theorem stuckStep_ae (hop : m.op = some l) (hm : m.state = .pass ∨ m.state = .dress)
    (h0 : m.ae.previous = none → m.ae.stuck = 0) (code : Code) : m.stuckStep .ae code =
      m.withChannels m.power (m.ae.stepped l.staleWindow code) m.powerFaultMark
        (if m.ae.latches l.staleWindow code then 0 else m.burstCounter)
        (if m.ae.latches l.staleWindow code then 0 else m.runPeak) := by
  have latch : (m.stuckCheck .ae code).stuckOn .ae = if m.ae.latches l.staleWindow code then some code else none :=
    stuckCheck_stuckOn (c := .ae) hop hm code h0
  unfold stuckStep
  rw [faultTaken_ae, latch, ← ChannelState.check_latched h0]
  cases m.ae.latches l.staleWindow code <;> rfl

/-- The stuck check of one sample (R90, R100). -/
theorem stuckStage_eq (hop : m.op = some l) (hm : m.state = .pass ∨ m.state = .dress)
    (hp : m.power.previous = none → m.power.stuck = 0) (ha : m.ae.previous = none → m.ae.stuck = 0) (power ae : Code) :
    m.stuckStage power ae =
      m.withChannels (m.power.stepped l.staleWindow power) (m.ae.stepped l.staleWindow ae)
        (m.powerFaultMark || m.power.latches l.staleWindow power && m.state == .pass)
        (if m.ae.latches l.staleWindow ae then 0 else m.burstCounter)
        (if m.ae.latches l.staleWindow ae then 0 else m.runPeak) := by
  unfold stuckStage
  rw [stuckStep_power hop hm hp]
  generalize hn : m.withChannels (m.power.stepped l.staleWindow power) m.ae
    (m.powerFaultMark || m.power.latches l.staleWindow power && m.state == .pass) m.burstCounter m.runPeak = n
  rw [stuckStep_ae (m := n) (l := l) (by rw [← hn]; exact hop) (by rw [← hn]; exact hm) (by rw [← hn]; exact ha), ← hn]
  rfl

/-! ### The run of the burst check -/

/-- The burst check takes codes (R88, R89). -/
def takes (m : Monitor) (l : Latched) : Bool := !l.void && !m.ae.fault && !m.burstDone

/-- The code rises above the threshold of a check that takes codes (R88). -/
def rises (m : Monitor) (l : Latched) (k : CheckParams) (code : Code) : Bool :=
  m.takes l && decide (k.threshold < code.toNat)

/-- The run reaches N with the code (R89). -/
def reaches (m : Monitor) (l : Latched) (k : CheckParams) (code : Code) : Bool :=
  m.rises l k code && decide (k.persistence ≤ m.burstCounter + 1)

/-- The peak of a run that goes on with the code (R88). -/
def peakWith (m : Monitor) (code : Code) : Nat := if m.burstCounter = 0 then code.toNat else max m.runPeak code.toNat

variable {k : CheckParams}

theorem takes_iff : m.takes l = true ↔ ¬(l.void = true ∨ m.ae.fault = true ∨ m.burstDone = true) := by
  simp [takes, and_assoc]

theorem burstCheck_eq (hk : l.check = some k) (code : Code) : m.burstCheck l code =
    m.withRun m.burstDone (if m.rises l k code then m.burstCounter + 1 else if m.takes l then 0 else m.burstCounter)
      (if m.rises l k code then m.peakWith code else if m.takes l then 0 else m.runPeak) := by
  unfold burstCheck rises
  rw [hk]
  cases ht : m.takes l with
  | false =>
    rw [if_pos (Classical.not_not.1 (mt takes_iff.2 (ne_true_of_eq_false ht)))]
    rfl
  | true =>
    rw [if_neg (takes_iff.1 ht), Bool.true_and]
    by_cases above : k.threshold < code.toNat
    · rw [Option.getD_some, if_pos above, decide_eq_true above]
      rfl
    · rw [Option.getD_some, if_neg above, decide_eq_false above]
      rfl

/-- The run of a live operation reaches N at this code, or the check finds nothing (R89). -/
theorem burstReached_eq (hop : m.op = some l) (hm : m.state = .pass ∨ m.state = .dress) (hl : l.live = true)
    (hk : l.check = some k) (code : Code) :
    (m.burstCheck l code).burstReached = if m.reaches l k code then some l else none := by
  have operating : (m.burstCheck l code).operating = true := by
    rw [burstCheck_eq hk]; exact m.operating_iff.2 hm
  have op : (m.burstCheck l code).op = some l := by rw [burstCheck_eq hk]; exact hop
  unfold burstReached reaches rises
  rw [op, operating]
  dsimp only
  rw [hk, burstCheck_eq hk]
  dsimp only [withRun]
  unfold rises
  cases ht : m.takes l with
  | false =>
    have untaken : ¬(l.void = false ∧ m.ae.fault = false ∧ m.burstDone = false) := by
      simpa [takes, and_assoc] using ht
    rw [Bool.false_and, Bool.false_and]
    exact if_neg fun ⟨_, hv, hf, hd, _⟩ => untaken ⟨hv, hf, hd⟩
  | true =>
    obtain ⟨hv, hf, hd⟩ : l.void = false ∧ m.ae.fault = false ∧ m.burstDone = false := by
      simpa [takes, and_assoc] using ht
    by_cases above : k.threshold < code.toNat
    · simp [above, hl, hv, hf, hd]
    · simp [above]

/-- The run that reaches N with a code has the peak with this code, found at the sample counted last (R88, R89). -/
theorem burstCheck_reaches (hk : l.check = some k) {code : Code} (h : m.reaches l k code = true) :
    (m.burstCheck l code).runPeak = m.peakWith code ∧ (m.burstCheck l code).lastIndex = m.lastIndex := by
  have rises : m.rises l k code = true := (Bool.and_eq_true_iff.1 h).1
  rw [burstCheck_eq hk, rises]
  exact ⟨rfl, rfl⟩

/-- The burst check of one sample (R88, R89). -/
theorem burstStage_eq (hop : m.op = some l) (hm : m.state = .pass ∨ m.state = .dress) (hl : l.live = true)
    (hk : l.check = some k) (code : Code) : m.burstStage l code =
      m.withRun (m.burstDone || m.reaches l k code)
        (if m.reaches l k code then 0 else if m.rises l k code then m.burstCounter + 1
          else if m.takes l then 0 else m.burstCounter)
        (if m.reaches l k code then 0 else if m.rises l k code then m.peakWith code
          else if m.takes l then 0 else m.runPeak) := by
  unfold burstStage burstTaken
  rw [burstReached_eq hop hm hl hk, burstCheck_eq hk]
  cases m.reaches l k code with
  | false => rw [Bool.or_false]; rfl
  | true => rw [Bool.or_true]; rfl

/-! ### The whole work -/

/-- The checks take the codes of a sample: a live operation past the blanking (R29, R41). -/
def given (m : Monitor) (l : Latched) : Bool := l.live && decide (m.blanking = 0)

theorem markFault_of_pass (m : Monitor) (l : Latched) : (if decide (l.kind = .pass) = true then m.markFault else m) =
    { m with powerFaultMark := m.powerFaultMark || decide (l.kind = .pass) && m.power.fault } := by
  rw [markFault_eq]
  cases decide (l.kind = .pass) with
  | false => rw [Bool.false_and, Bool.or_false]; rfl
  | true => rw [Bool.true_and]; rfl

section

variable (m : Monitor) (index : Nat)

theorem count_takes (l : Latched) : (m.count index).takes l = m.takes l := rfl
theorem count_rises (l : Latched) (k : CheckParams) (code : Code) : (m.count index).rises l k code = m.rises l k code := rfl
theorem count_reaches (l : Latched) (k : CheckParams) (code : Code) :
    (m.count index).reaches l k code = m.reaches l k code := rfl
theorem count_peakWith (code : Code) : (m.count index).peakWith code = m.peakWith code := rfl

end

/-- The latch of the power channel and the channel's flag set the mark of a pass, and of a pass alone (R30, R90). -/
theorem mark_of_latch (m : Monitor) {l : Latched}
    (hm : m.state = .pass ∧ l.kind = .pass ∨ m.state = .dress ∧ l.kind = .dress) (power : Code) :
    (m.powerFaultMark || m.power.latches l.staleWindow power && m.state == .pass ||
        decide (l.kind = .pass) && (m.power.stepped l.staleWindow power).fault) =
      (m.powerFaultMark || decide (l.kind = .pass) && (m.power.stepped l.staleWindow power).fault) := by
  unfold ChannelState.latches
  rcases hm with ⟨hs, hk⟩ | ⟨hs, hk⟩
  · rw [hs, hk]
    cases (m.power.stepped l.staleWindow power).fault <;> simp
  · simp [hs, hk]

/-- The monitor after the work of a sample of its operation, field by field. -/
theorem worked_eq (hop : m.op = some l) (hm : m.state = .pass ∧ l.kind = .pass ∨ m.state = .dress ∧ l.kind = .dress)
    (hk : l.live = true → l.check = some k) (hp : m.power.previous = none → m.power.stuck = 0)
    (ha : m.ae.previous = none → m.ae.stuck = 0) (power ae : Code) (index : Nat) :
    m.worked l power ae index = { m with
      sampleCount := satAdd32 m.sampleCount 1
      blanking := m.blanking - 1
      lastIndex := index
      energy := if l.kind = .pass ∧ l.live = true ∧ m.power.fault = false then satAdd32 m.energy power.toNat else m.energy
      power := if m.given l then m.power.stepped l.staleWindow power else m.power
      ae := if m.given l then m.ae.stepped l.staleWindow ae else m.ae
      powerFaultMark := m.powerFaultMark || decide (l.kind = .pass) &&
        (if m.given l then m.power.stepped l.staleWindow power else m.power).fault
      burstDone := m.burstDone || m.given l && m.reaches l k ae
      burstCounter := if m.given l && (m.ae.latches l.staleWindow ae || m.reaches l k ae) then 0
        else if m.given l && m.rises l k ae then m.burstCounter + 1
        else if m.given l && m.takes l then 0 else m.burstCounter
      runPeak := if m.given l && (m.ae.latches l.staleWindow ae || m.reaches l k ae) then 0
        else if m.given l && m.rises l k ae then m.peakWith ae
        else if m.given l && m.takes l then 0 else m.runPeak } := by
  have operates : m.state = .pass ∨ m.state = .dress := hm.imp And.left And.left
  unfold worked
  dsimp only
  cases hg : m.given l with
  | false =>
    have unchecked : (l.live && decide (m.blanking = 0)) = false := hg
    rw [unchecked, if_neg Bool.false_ne_true, if_neg Bool.false_ne_true, addEnergy_of_live, markFault_of_pass,
      Bool.false_and (m.reaches l k ae), Bool.or_false]
    rfl
  | true =>
    have checked : (l.live && decide (m.blanking = 0)) = true := hg
    have live : l.live = true := (Bool.and_eq_true_iff.1 checked).1
    rw [checked, if_pos rfl, if_pos rfl, addEnergy_of_live, burstStage_eq (m := m.count index) hop operates live (hk live),
      count_reaches, count_rises, count_takes, count_peakWith, markFault_of_pass, stuckStage_eq (l := l) ?_ ?_ ?_ ?_]
    · simp only [Bool.true_and, if_true, Bool.or_eq_true, ite_or]
      rw [← m.mark_of_latch hm power]
      rfl
    · exact hop
    · exact operates
    · exact hp
    · exact ha

end Monitor

end Sys2Proof.Machine
end

section
/-! A sample of an operation that runs on: its detection is the one the ring's write alone would bring, and its channel faults
are answered after it, the power channel's first (R28, R89, R98, R101). -/

namespace Sys2Proof.Machine

namespace State

/-- The station's answer to a channel fault that a code may have brought. -/
def answered (s : State) (st : Fin 6) (c : Channel) (latch : Bool) (code : Code) : State :=
  if latch then s.faultAnswered st c code else s

/-- The run reached N in the monitor `m`: the commit of the tool and the detection; nothing without that (R89, R98). -/
def detected (s : State) (st : Fin 6) (l : Latched) (reached : Bool) (peak index : Nat) : State :=
  if reached then s.takeDetection ⟨st, l.posKind, l.tool, .burst, peak, l.passClass, index⟩ else s

variable (s : State) (st : Fin 6)

theorem answered_frame (c : Channel) (latch : Bool) (code : Code) :
    onlyChanges [.flags, .notices] s (s.answered st c latch code) := by
  unfold answered
  split
  · exact s.faultAnswered_frame st c code
  · exact s.onlyChanges_refl _

theorem answered_journal (c : Channel) (latch : Bool) (code : Code) : (s.answered st c latch code).journal = s.journal :=
  s.answered_frame st c latch code .journal (by decide)

theorem answered_flags (c : Channel) (latch : Bool) (code : Code) : (s.answered st c latch code).flags = s.flags.set st
    (if (decide ((s.config st).action = .hold) && latch) = true then { s.flag st with sensor := true } else s.flag st) := by
  unfold answered
  cases latch with
  | false =>
    rw [Bool.and_false]
    exact (Vector.set_getElem_self st.isLt).symm
  | true =>
    rw [Bool.and_true, if_pos rfl, faultAnswered_flags]
    simp only [decide_eq_true_eq]

/-- The energy step of a sample (R30). -/
def energized (s : State) (st : Fin 6) (l : Latched) (power : Code) : State :=
  if decide (l.kind = .pass) && l.live then s.modifyMonitor st fun m => m.addEnergy power else s

/-- The power-fault mark at the end of a sample (R30). -/
def marked (s : State) (st : Fin 6) (l : Latched) : State :=
  if decide (l.kind = .pass) then s.modifyMonitor st Monitor.markFault else s

/-- The state in which the checks of a sample begin: the pair written and the sample counted (R29, R116). -/
def counted (s : State) (st : Fin 6) (pair : Code × Code) : State :=
  (s.captureWrite st pair).modifyMonitor st fun m => m.count (s.capture st).next

/-- The work of a sample of an operation, by whether its codes are given to the checks (R29, R41). -/
theorem operationWork_eq (l : Latched) (power ae : Code) : s.operationWork st l power ae =
    (if (s.monitor st).given l then
        (((s.counted st (power, ae)).burstStage st l ae).energized st l power).stuckStage st power ae
      else (s.counted st (power, ae)).energized st l power).marked st l := by
  have given : (l.live && decide ((s.monitor st).blanking = 0)) = (s.monitor st).given l := rfl
  unfold operationWork
  dsimp only
  rw [given]
  cases (s.monitor st).given l <;> rfl

theorem counted_monitor (pair : Code × Code) :
    (s.counted st pair).monitor st = (s.monitor st).count (s.capture st).next := modifyMonitor_monitor_self _ _ _

theorem energized_monitor (l : Latched) (power : Code) : (s.energized st l power).monitor st =
    { s.monitor st with
      energy :=
        if l.kind = .pass ∧ l.live = true ∧ (s.monitor st).power.fault = false then
          satAdd32 (s.monitor st).energy power.toNat
        else (s.monitor st).energy } := by
  rw [← Monitor.addEnergy_of_live, energized, monitor_ite, modifyMonitor_monitor_self]

variable {s st}

/-- Where the run reaches N, the detection carries the peak with this code and the index of the sample counted (R89). -/
theorem detected_of_reaches {u : State} {m : Monitor} {l : Latched} {k : CheckParams} {index : Nat} {ae : Code}
    (hk : l.check = some k) (hu : u.monitor st = m.count index) :
    s.detected st l (m.reaches l k ae) ((u.monitor st).burstCheck l ae).runPeak ((u.monitor st).burstCheck l ae).lastIndex =
      s.detected st l (m.reaches l k ae) (m.peakWith ae) index := by
  unfold detected
  split
  · next h =>
    obtain ⟨peak, last⟩ := Monitor.burstCheck_reaches (m := m.count index) hk h
    rw [hu, peak, last]
    rfl
  · rfl

/-- A channel fault found or not found on a code: the monitor's latch and the answer (R101). -/
theorem takeChannelFault_eq {c : Channel} {latch : Bool} {code : Code}
    (h : (s.monitor st).stuckOn c = if latch then some code else none) :
    s.takeChannelFault st c = (s.answered st c latch code).setMonitor st ((s.monitor st).faultTaken c) := by
  have taken : (s.monitor st).faultTaken c = if latch then (s.monitor st).latchFault c else s.monitor st := by
    unfold Monitor.faultTaken
    rw [h]
    cases latch <;> rfl
  rw [taken]
  cases latch with
  | false =>
    have same : s.monitors.set st (s.monitor st) = s.monitors := Vector.set_getElem_self st.isLt
    exact (takeChannelFault_of_none h).trans (congrArg s.withMonitors same).symm
  | true => exact takeChannelFault_of_some h

end State

namespace Alike

variable {j j' : List Commit} {s t : State} {st : Fin 6} {l : Latched}

theorem modifyMonitor (h : Alike j j' s t) (f : Monitor → Monitor) : Alike j j' s (t.modifyMonitor st f) :=
  h.withMonitors_right _

theorem ite_right {u : State} {c : Prop} [Decidable c] (h : Alike j j' s t) (k : Alike j j' s u) :
    Alike j j' s (if c then t else u) := by
  split <;> assumption

theorem energized (h : Alike j j' s t) (l : Latched) (power : Code) : Alike j j' s (t.energized st l power) :=
  (h.modifyMonitor _).ite_right h

theorem marked (h : Alike j j' s t) (l : Latched) : Alike j j' s (t.marked st l) := (h.modifyMonitor _).ite_right h

theorem answered (h : Alike j j' s t) (c : Channel) (latch : Bool) (code : Code) :
    Alike j j' (s.answered st c latch code) (t.answered st c latch code) :=
  h.map (fun u => u.answered st c latch code) fun u m k => by cases latch <;> rfl

/-- A commit that one side alone makes is older than those both make. -/
theorem commit_right (h : Alike s.journal j' s t) (ws : List RetainedWrite) :
    Alike s.journal (ws :: j') s (t.commit ws) := by
  obtain ⟨m, k, hk, rfl⟩ := h
  obtain rfl : k = [] := List.self_eq_append_left.1 hk
  exact ⟨m, [], rfl, rfl⟩

/-- The burst check of one sample: its detection is that of the other side (R89, R98). -/
theorem burstStage (h : Alike s.journal j' s t) {ae : Code} {reached : Bool}
    (hr : ((t.monitor st).burstCheck l ae).burstReached = if reached then some l else none) :
    Alike s.journal (if reached then [s.oldTool l.tool] :: j' else j')
      (s.detected st l reached ((t.monitor st).burstCheck l ae).runPeak ((t.monitor st).burstCheck l ae).lastIndex)
      (t.burstStage st l ae) := by
  have checked : Alike s.journal j' s (t.modifyMonitor st fun m => m.burstCheck l ae) := h.modifyMonitor _
  have monitor : (t.modifyMonitor st fun m => m.burstCheck l ae).monitor st = (t.monitor st).burstCheck l ae :=
    t.modifyMonitor_monitor_self st _
  unfold State.burstStage State.detected
  rcases State.takeBurst_cases (t.modifyMonitor st fun m => m.burstCheck l ae) st with ⟨hn, none⟩ | ⟨k, hsome, taken⟩
  · rw [monitor, hr] at hn
    rw [none]
    cases reached with
    | false => exact checked
    | true => cases hn
  · rw [monitor, hr] at hsome
    rw [taken, monitor]
    cases reached with
    | false => cases hsome
    | true =>
      cases hsome
      rw [← checked.oldTool]
      exact ((checked.withMonitors_right _).commit_right _).takeDetection _

/-- The stuck check of one code (R100, R101). -/
theorem stuckStep (h : Alike j j' s t) {c : Channel} {code : Code} {latch : Bool}
    (hf : ((t.monitor st).stuckCheck c code).stuckOn c = if latch then some code else none) :
    Alike j j' (s.answered st c latch code) ((t.modifyMonitor st fun m => m.stuckCheck c code).takeChannelFault st c) := by
  rw [← t.modifyMonitor_monitor_self st fun m => m.stuckCheck c code] at hf
  rw [State.takeChannelFault_eq hf]
  exact ((h.modifyMonitor _).answered c latch code).withMonitors_right _

/-- The stuck check of one sample (R100, R101). -/
theorem stuckStage (h : Alike j j' s t) (hop : (t.monitor st).op = some l)
    (hm : (t.monitor st).state = .pass ∨ (t.monitor st).state = .dress)
    (hp : (t.monitor st).power.previous = none → (t.monitor st).power.stuck = 0)
    (ha : (t.monitor st).ae.previous = none → (t.monitor st).ae.stuck = 0) (power ae : Code) :
    Alike j j' ((s.answered st .power ((t.monitor st).power.latches l.staleWindow power) power).answered st .ae
      ((t.monitor st).ae.latches l.staleWindow ae) ae) (t.stuckStage st power ae) := by
  have first := h.stuckStep (Monitor.stuckCheck_stuckOn (c := .power) hop hm power hp)
  have monitor := ((t.modifyMonitor st fun m => m.stuckCheck .power power).takeChannelFault_monitor st .power)
  rw [t.modifyMonitor_monitor_self] at monitor
  have stepped := Monitor.stuckStep_power hop hm hp power
  rw [Monitor.stuckStep, ← monitor] at stepped
  unfold State.stuckStage
  dsimp only
  generalize (t.modifyMonitor st fun m => m.stuckCheck .power power).takeChannelFault st .power = u at *
  refine first.stuckStep ?_
  rw [stepped]
  exact Monitor.stuckCheck_stuckOn (m := Monitor.withChannels ..) (c := .ae) hop hm ae ha

/-- The work of a sample of a running operation: from states alike in all but the monitors it is the ring's write, the
detection of the burst check and the answers to the channel faults (R28, R89, R98, R101). -/
theorem operationWork {m : Monitor} {k : CheckParams} (h : Alike s.journal [] s t) (monitor : t.monitor st = m)
    (hop : m.op = some l) (hm : m.state = .pass ∨ m.state = .dress) (hk : l.live = true → l.check = some k)
    (hp : m.power.previous = none → m.power.stuck = 0) (ha : m.ae.previous = none → m.ae.stuck = 0) (power ae : Code) :
    Alike s.journal (if m.given l && m.reaches l k ae then [[s.oldTool l.tool]] else [])
      ((((s.captureWrite st (power, ae)).detected st l (m.given l && m.reaches l k ae) (m.peakWith ae)
        (s.capture st).next).answered st .power (m.given l && m.power.latches l.staleWindow power) power).answered st .ae
        (m.given l && m.ae.latches l.staleWindow ae) ae)
      (t.operationWork st l power ae) := by
  have written : Alike s.journal [] (s.captureWrite st (power, ae)) (t.counted st (power, ae)) := by
    obtain ⟨v, k, hk, rfl⟩ := h
    exact ⟨_, k, hk, rfl⟩
  have capture : t.capture st = s.capture st := congrArg (·[st]) (h.same (x := .captures) (by decide) (by decide))
  have counted := t.counted_monitor st (power, ae)
  rw [monitor, capture] at counted
  rw [State.operationWork_eq, monitor]
  generalize t.counted st (power, ae) = u at *
  refine Alike.marked ?_ l
  cases hg : m.given l with
  | false => exact written.energized l power
  | true =>
    have live : l.live = true := (Bool.and_eq_true_iff.1 hg).1
    have reaches := Monitor.burstReached_eq (m := m.count (s.capture st).next) hop hm live (hk live) ae
    rw [Monitor.count_reaches, ← counted] at reaches
    have burst := written.burstStage reaches
    rw [State.detected_of_reaches (hk live) counted] at burst
    obtain ⟨done, counter, peak, run⟩ := (u.monitor st).burstStage_writes l ae
    have checked := (u.burstStage st l ae).energized_monitor st l power
    rw [State.burstStage_monitor, run, counted] at checked
    have stuck := (burst.energized l power).stuckStage (l := l) (by rw [checked]; exact hop) (by rw [checked]; exact hm)
      (by rw [checked]; exact hp) (by rw [checked]; exact ha) power ae
    rw [checked] at stuck
    simp only [Bool.true_and]
    exact stuck

end Alike

end Sys2Proof.Machine
end

section
/-! Any sample keeps to its station, and a sample of an operation that runs on does its work alone (R26, R28, R90, R101). -/

namespace Sys2Proof.Machine

theorem Latched.live_eq (l : Latched) : l.live = decide (l.tool ≠ 0) := by
  unfold live tool
  cases l.kind <;> rfl

/-- A write to one record follows another to the same record. -/
theorem oneBecomes.trans {α : Type} {n : Nat} {i : Fin n} {x y : α} {u v w : Vector α n} (h : oneBecomes i x u v)
    (k : oneBecomes i y v w) : oneBecomes i y u w := fun j => by
  rw [k j, h j]
  split <;> rfl

theorem Alike.journal {j j' : List Commit} {s t : State} (h : Alike j j' s t) :
    ∃ k, s.journal = k ++ j ∧ t.journal = k ++ j' := by
  obtain ⟨m, k, hk, rfl⟩ := h
  exact ⟨k, hk, rfl⟩

namespace State

variable {s : State} {st : Fin 6} {raw : Lines}

/-- A sample of an operation at which nothing ends or begins: the filter and the work (R27). -/
theorem takeSample_work {l : Latched} {k : OpKind} (hst : (s.monitor st).state = k.state) (hop : (s.monitor st).op = some l)
    (hfall : ((s.monitor st).edges raw).ownFall k = false) (hpart : ((s.monitor st).edges raw).partRise = false)
    (hrise : ((s.monitor st).edges raw).otherRise k = false) (power ae : Code) :
    s.takeSample st power ae raw = (s.filterTo st raw).operationWork st l power ae := by
  have state : ((s.filterTo st raw).monitor st).state = k.state := by
    rw [filterTo_monitor, Monitor.filterStep_state, hst]
  have op : ((s.filterTo st raw).monitor st).op = some l := by rw [filterTo_monitor, Monitor.filterStep_op, hop]
  rw [takeSample_running hst hfall hpart, takeRises_operating state hrise, sampleWork_operating ?_ op]
  rw [state]
  cases k
  · exact .inl rfl
  · exact .inr rfl

/-- Two faults answered at a station set SENSOR once under HOLD (R101). -/
theorem answered_twice_flags (s : State) (st : Fin 6) (p a : Bool) (power ae : Code) :
    oneBecomes st
      (if (decide ((s.config st).action = .hold) && (p || a)) = true then { s.flag st with sensor := true } else s.flag st)
      s.flags ((s.answered st .power p power).answered st .ae a ae).flags := by
  have config : (s.answered st .power p power).config st = s.config st :=
    congrArg (·[st]) (s.answered_frame st .power p power .configs (by decide))
  have first : oneBecomes st _ s.flags (s.answered st .power p power).flags :=
    answered_flags s st .power p power ▸ oneBecomes_set _ _ _
  have second : oneBecomes st _ (s.answered st .power p power).flags ((s.answered st .power p power).answered st .ae a ae).flags :=
    answered_flags _ st .ae a ae ▸ oneBecomes_set _ _ _
  have flag : (s.answered st .power p power).flag st = _ := (first st).trans (if_pos rfl)
  rw [config, flag] at second
  refine (congrArg (oneBecomes st · _ _) ?_).mp (first.trans second)
  cases decide ((s.config st).action = .hold) <;> cases p <;> cases a <;> rfl

/-- Two faults answered at a station make their notices in order (R101). -/
theorem answered_twice_notices (s : State) (st : Fin 6) (p a : Bool) (power ae : Code) :
    ((s.answered st .power p power).answered st .ae a ae).notices =
      if a then (if p then s.notices.push (decide ((s.config st).action = .hold))
          ⟨.sensorFault, some st, none, 0, 0, power.toNat, 0, s.clock⟩ else s.notices).push
            (decide ((s.config st).action = .hold)) ⟨.sensorFault, some st, none, 0, 0, ae.toNat, 1, s.clock⟩
      else if p then s.notices.push (decide ((s.config st).action = .hold))
          ⟨.sensorFault, some st, none, 0, 0, power.toNat, 0, s.clock⟩ else s.notices := by
  cases p <;> cases a <;> rfl

/-- A sample of a running operation: the monitor's own step, and what the other blocks take from it (R28, R29, R89, R101). -/
theorem takeSample_runs {m : Monitor} {l : Latched} {k : CheckParams} (hs : s.monitor st = m) (hprimed : m.primed = true)
    (hop : m.op = some l) (hm : m.state = .pass ∧ l.kind = .pass ∨ m.state = .dress ∧ l.kind = .dress)
    (hdp : m.differing.pass = false) (hdd : m.differing.dress = false)
    (hpart : ¬(m.filtered.partEnd = false ∧ m.differing.partEnd = true ∧ raw.partEnd = true))
    (hk : l.live = true → l.check = some k) (hp : m.power.previous = none → m.power.stuck = 0)
    (ha : m.ae.previous = none → m.ae.stuck = 0) (power ae : Code) :
    ((s.withJournal []).takeSample st power ae raw).monitor st =
        { m.worked l power ae (s.capture st).next with filtered := m.filteredNext raw, differing := m.differingNext raw } ∧
      Alike s.journal (if m.given l && m.reaches l k ae then [[s.oldTool l.tool]] else [])
        ((((s.captureWrite st (power, ae)).detected st l (m.given l && m.reaches l k ae) (m.peakWith ae)
          (s.capture st).next).answered st .power (m.given l && m.power.latches l.staleWindow power) power).answered st .ae
          (m.given l && m.ae.latches l.staleWindow ae) ae)
        ((s.withJournal []).takeSample st power ae raw) := by
  subst hs
  have edges := Monitor.edges_of_primed hprimed raw
  rw [hdp, hdd] at edges
  have noPart : ((s.monitor st).edges raw).partRise = false := by rw [edges]; simpa [and_assoc] using hpart
  have noEnd : ((s.monitor st).edges raw).ownFall l.kind = false := by
    rw [edges]; cases l.kind <;> simp [Edges.ownFall]
  have noRise : ((s.monitor st).edges raw).otherRise l.kind = false := by
    rw [edges]; cases l.kind <;> simp [Edges.otherRise]
  have state : (s.monitor st).state = l.kind.state := by
    rcases hm with ⟨hst, hk⟩ | ⟨hst, hk⟩ <;> rw [hst, hk] <;> rfl
  have monitor := (s.withJournal []).filterTo_monitor st raw
  rw [withJournal_monitor, Monitor.filterStep_of_primed hprimed] at monitor
  rw [takeSample_work (s := s.withJournal []) state hop noEnd noPart noRise]
  refine ⟨?_, (s.alike_filterTo st raw).operationWork monitor hop (hm.imp And.left And.left) hk hp ha power ae⟩
  rw [operationWork_monitor, monitor, Monitor.worked_eq hop hm hk hp ha, Monitor.worked_eq (k := k) ?_ ?_ ?_ ?_ ?_]
  · rfl
  · exact hop
  · exact hm
  · exact hk
  · exact hp
  · exact ha

end State

/-- Settles O11: the sample is the filter's step and the work of the operation; its detection and its answers read nothing of
the monitor, and the monitor's own step is read off field by field. -/
theorem sampleKeepsToItsStation : Obligations.SampleKeepsToItsStation := by
  constructor
  · intro s st power ae raw hp
    refine ⟨_, exec_sample hp st power ae raw, ?_, (KeepsOthers.takeSample (s.withJournal []) power ae raw).others, fun off => ?_⟩
    · obtain ⟨powered, clock, configs, link, pending, -, -⟩ := Worked.takeSample (s.withJournal []) st power ae raw
      intro x hx
      cases x <;> first | assumption | simp at hx
    · have stands : (s.withJournal []).takeSample st power ae raw = s.withJournal [] := if_pos off
      rw [stands]
      intro x hx
      cases x <;> first | rfl | simp at hx
  · intro s v st power ae raw l k m n peak kind given taken above reached powerLatch aeLatch hold stuck faultNotice hp hm hprimed
      hop hline hdp hdd hpart hn hk hpp hpa hgiven htaken habove hreached hpeak hstuck hpl hal hhold hnotice hv
    obtain ⟨rfl, rfl⟩ : n = l.tool ∧ kind = l.posKind := by
      refine Prod.mk.inj (hn.trans ?_)
      unfold Latched.tool Latched.posKind
      cases l.kind <;> rfl
    have live : l.live = true → l.check = some k := fun h => hk (l.live_iff.1 h)
    obtain rfl : given = m.given l := by rw [hgiven, Monitor.given, l.live_eq]
    obtain rfl : taken = (m.given l && m.takes l) := by rw [htaken, Monitor.takes]; simp only [Bool.and_assoc]
    obtain rfl : above = (m.given l && m.rises l k ae) := by rw [habove, Monitor.rises, Bool.and_assoc]
    obtain rfl : reached = (m.given l && m.reaches l k ae) := by rw [hreached, Monitor.reaches, Bool.and_assoc]
    obtain rfl : peak = m.peakWith ae := hpeak
    have stepped : ∀ x code, stuck x code = if m.given l then x.stepped l.staleWindow code else x := by
      intro x code
      rw [hstuck, ChannelState.stepped]
      cases m.given l <;> simp [ChannelState.latched]
    have latched : ∀ x code, ((stuck x code).fault && !x.fault) = (m.given l && x.latches l.staleWindow code) := by
      intro x code
      rw [stepped, ChannelState.latches]
      cases m.given l <;> simp
    rw [latched] at hpl hal
    have reads : v = (s.captureWrite st (power, ae)).detected st l (m.given l && m.reaches l k ae) (m.peakWith ae)
        (s.capture st).next := hv
    obtain ⟨worked, alike⟩ := State.takeSample_runs hm.symm hprimed hop hline hdp hdd hpart live hpp hpa power ae
    rw [← reads, ← hpl, ← hal] at alike
    rw [Monitor.worked_eq hop hline live hpp hpa] at worked
    refine ⟨_, exec_sample hp st power ae raw, ?_⟩
    generalize (s.withJournal []).takeSample st power ae raw = t at alike worked ⊢
    rw [worked]
    have frame : onlyChanges detectionParts (s.captureWrite st (power, ae)) v := by
      rw [reads, State.detected]
      split
      · exact State.takeDetection_frame _ _
      · exact State.onlyChanges_refl _ _
    have flags : v.flags = s.flags := frame .flags (by decide)
    have flag : v.flag st = s.flag st := congrArg (·[st]) flags
    have config : v.config st = s.config st := congrArg (·[st]) (frame .configs (by decide))
    have clock : v.clock = s.clock := frame .clock (by decide)
    refine ⟨?_, rfl, hop, rfl, rfl, rfl, rfl, ?_, (stepped ..).symm, (stepped ..).symm, ?_, rfl, ?_, ?_, ?_, ?_, ?_, ?_⟩
    · exact onlyChanges_trans (onlyChanges_mono (v.answered_frame st .power powerLatch power) (by decide))
        (onlyChanges_trans (onlyChanges_mono (State.answered_frame _ st .ae aeLatch ae) (by decide))
          (onlyChanges_mono alike.frame (by decide)))
    · simp only [l.live_iff]
      rfl
    · rw [stepped]
    · rw [hal, ← Bool.and_or_distrib_left]
    · rw [hal, ← Bool.and_or_distrib_left]
    · have answered := v.answered_twice_flags st powerLatch aeLatch power ae
      have sameFlags := alike.same (x := .flags) (by decide) (by decide)
      rw [config, flag, flags, ← hhold, ← sameFlags] at answered
      exact answered
    · rintro q rfl
      have sameNotices := alike.same (x := .notices) (by decide) (by decide)
      refine Eq.trans sameNotices ?_
      rw [v.answered_twice_notices, config, clock, ← hhold, hnotice, hnotice]
    · intro none
      have journal : v.journal = s.journal := by rw [reads, none]; rfl
      rw [none] at alike
      obtain ⟨ks, hks, ht⟩ := alike.journal
      rw [State.answered_journal, State.answered_journal, journal] at hks
      rw [ht, List.self_eq_append_left.1 hks]
      rfl
    · intro found
      rw [found] at alike
      obtain ⟨ks, -, ht⟩ := alike.journal
      rw [ht]
      exact List.getLast?_concat

end Sys2Proof.Machine
end

section
/-! The arithmetic of a pass: the table of R50, the weight, the detection, and the two steps of a class reference
(Chapter 3). -/

namespace Sys2Proof.Machine

/-- The row of R50's table that gives an outcome, as a condition on the pass alone: its own test, after every test above it
has failed. -/
def PassOutcome.row (mark : Bool) (energy eMin : Nat) (ref : ClassRef) (low high r : Nat) : PassOutcome → Prop
  | .unjudged => mark = true
  | .air => mark = false ∧ energy < eMin
  | .learning => mark = false ∧ eMin ≤ energy ∧ ref.state ≠ .learned
  | .underload => mark = false ∧ eMin ≤ energy ∧ ref.state = .learned ∧ r < low
  | .overload => mark = false ∧ eMin ≤ energy ∧ ref.state = .learned ∧ high < r
  | .good => mark = false ∧ eMin ≤ energy ∧ ref.state = .learned ∧ low ≤ r ∧ r ≤ high

section

variable {mark : Bool} {energy eMin low high : Nat} {ref : ClassRef} {o : PassOutcome}

/-- A pass meets the row of its outcome. -/
theorem row_passOutcome :
    (passOutcome mark energy eMin ref low high).row mark energy eMin ref low high (passRatio energy ref.value) := by
  unfold passOutcome
  split_ifs with hmark hair hlearn hunder hover
  · exact hmark
  · exact ⟨Bool.eq_false_iff.2 hmark, hair⟩
  all_goals
    have unmarked : mark = false := Bool.eq_false_iff.2 hmark
    have cuts : eMin ≤ energy := Nat.le_of_not_lt hair
  · exact ⟨unmarked, cuts, hlearn⟩
  all_goals have learned : ref.state = .learned := not_not.1 hlearn
  · exact ⟨unmarked, cuts, learned, hunder⟩
  · exact ⟨unmarked, cuts, learned, hover⟩
  · exact ⟨unmarked, cuts, learned, Nat.le_of_not_lt hunder, Nat.le_of_not_lt hover⟩

/-- A pass that meets a row has its outcome. Only OVERLOAD needs the bounds in order: its test stands below UNDERLOAD's. -/
theorem passOutcome_of_row (bounds : low ≤ high)
    (h : o.row mark energy eMin ref low high (passRatio energy ref.value)) :
    passOutcome mark energy eMin ref low high = o := by
  unfold passOutcome
  cases o with
  | unjudged => exact if_pos h
  | air =>
    obtain ⟨rfl, hair⟩ := h
    simp [hair]
  | learning =>
    obtain ⟨rfl, cuts, hlearn⟩ := h
    simp [Nat.not_lt.2 cuts, hlearn]
  | underload =>
    obtain ⟨rfl, cuts, hlearned, hunder⟩ := h
    simp [Nat.not_lt.2 cuts, hlearned, hunder]
  | overload =>
    obtain ⟨rfl, cuts, hlearned, hover⟩ := h
    simp [Nat.not_lt.2 cuts, hlearned, hover, Nat.not_lt.2 (bounds.trans hover.le)]
  | good =>
    obtain ⟨rfl, cuts, hlearned, hlow, hhigh⟩ := h
    simp [Nat.not_lt.2 cuts, hlearned, Nat.not_lt.2 hlow, Nat.not_lt.2 hhigh]

/-- The rows are exclusive and leave out no pass: each outcome is that of its own row (R50, R53, R54). -/
theorem passOutcome_eq_iff (bounds : low ≤ high) : passOutcome mark energy eMin ref low high = o ↔
    o.row mark energy eMin ref low high (passRatio energy ref.value) :=
  ⟨by rintro rfl; exact row_passOutcome, passOutcome_of_row bounds⟩

end

section

variable {o : PassOutcome} {r : Nat}

/-- An AIR pass, and no other, costs the wheel nothing (R55). -/
theorem passWeight_eq_none_iff : passWeight o r = none ↔ o = .air := by
  cases o <;> simp [passWeight]

/-- An unjudged or a learning pass weighs 1,024, a judged one its ratio held within 256 and 4,096 (R55). -/
theorem passWeight_value {w : Nat} (h : passWeight o r = some w) :
    w = if o = .unjudged ∨ o = .learning then 1024 else max 256 (min 4096 r) := by
  have judged : clamp 256 4096 r = max 256 (min 4096 r) := clamp_eq (by decide) r
  cases o with
  | air => cases h
  | unjudged | learning => cases h; rfl
  | good | underload | overload => cases h; simpa using judged

theorem passWeight_bounds {w : Nat} (h : passWeight o r = some w) : 256 ≤ w ∧ w ≤ 4096 := by
  rw [passWeight_value h]
  split <;> omega

/-- The detection of a pass: the AIR count that reaches the limit, or the ratio outside the bounds (R64, R66). -/
theorem passDetection_eq_some_iff {air airLimit v : Nat} {cls : DetClass} :
    passDetection o r air airLimit = some (cls, v) ↔
      o = .air ∧ airLimit ≤ air + 1 ∧ cls = .contactLoss ∧ v = air + 1 ∨
        o = .underload ∧ cls = .underload ∧ v = r ∨ o = .overload ∧ cls = .overload ∧ v = r := by
  cases o with
  | air | underload | overload => simp [passDetection, eq_comm]
  | unjudged | learning | good => simp [passDetection]

end

namespace ClassRef

variable (x : ClassRef) {energy learnCount : Nat}

/-- The step that reaches L completes the run, with the mean of the energies as the reference (R58). -/
theorem learn_of_reached (h : learnCount ≤ x.n + 1) : x.learn energy learnCount =
    ⟨.learned, x.n + 1, x.sum + energy, (x.sum + energy) / (x.n + 1)⟩ := if_pos h

/-- A step short of L leaves the run going and the reference as it was (R57). -/
theorem learn_of_short (h : x.n + 1 < learnCount) :
    x.learn energy learnCount = ⟨.learning, x.n + 1, x.sum + energy, x.value⟩ := if_neg (Nat.not_le.2 h)

theorem learn_counts : (x.learn energy learnCount).n = x.n + 1 ∧ (x.learn energy learnCount).sum = x.sum + energy := by
  rcases Nat.lt_or_ge (x.n + 1) learnCount with short | reached
  · simp [learn_of_short x short]
  · simp [learn_of_reached x reached]

/-- An energy above the reference raises it by the floor of the difference over 2^k (R62). -/
theorem smooth_value_of_le (k : Nat) (h : x.value ≤ energy) :
    (x.smooth energy k).value = x.value + (energy - x.value) / 2 ^ k := by
  have quotient : ((energy : Int) - x.value).tdiv (2 ^ k) = ((energy - x.value) / 2 ^ k : Nat) := by
    rw [← Nat.cast_sub h, Int.ofNat_tdiv, Nat.cast_pow, Nat.cast_ofNat]
  unfold smooth
  rw [quotient]
  rfl

/-- An energy below the reference lowers it by the floor of the difference over 2^k: toward zero, not down (R62). -/
theorem smooth_value_of_ge (k : Nat) (h : energy ≤ x.value) :
    (x.smooth energy k).value = x.value - (x.value - energy) / 2 ^ k := by
  have quotient : ((energy : Int) - x.value).tdiv (2 ^ k) = -((x.value - energy) / 2 ^ k : Nat) := by
    rw [← neg_sub, Int.neg_tdiv, ← Nat.cast_sub h, Int.ofNat_tdiv, Nat.cast_pow, Nat.cast_ofNat]
  unfold smooth
  rw [quotient, ← sub_eq_add_neg]
  exact Int.toNat_sub _ _

end ClassRef

/-- Settles O16: the outcome is that of its row of R50's table, and the weight, the detection and the two steps of the
class reference follow case by case. -/
theorem passArithmetic : Obligations.PassArithmetic := by
  intro mark energy eMin low high k learnCount r ref o bounds hr ho
  have outcome : ∀ p, o = p ↔ p.row mark energy eMin ref low high r := fun p => by
    rw [ho, hr]
    exact passOutcome_eq_iff bounds
  refine ⟨outcome .unjudged, outcome .air, outcome .learning, outcome .underload, outcome .overload, outcome .good,
    passWeight_eq_none_iff, fun w hw => ?weight, fun _ _ _ _ => passDetection_eq_some_iff, ?learning, ?smoothing⟩
  case weight =>
    obtain ⟨least, most⟩ := passWeight_bounds hw
    exact ⟨least, most, passWeight_value hw⟩
  case learning =>
    obtain ⟨count, sum⟩ := ref.learn_counts (energy := energy) (learnCount := learnCount)
    refine ⟨count, sum, fun reached => ?_, fun short => ?_⟩
    · rw [ref.learn_of_reached reached]
      exact ⟨rfl, rfl⟩
    · rw [ref.learn_of_short short]
      exact ⟨rfl, rfl⟩
  case smoothing => exact ⟨rfl, rfl, rfl, ref.smooth_value_of_le k, ref.smooth_value_of_ge k⟩

end Sys2Proof.Machine
end

section
/-! HOLD and CLEAR_FAULT: refused for a station that is not there, else the flags and the channels that they write (R103,
R114). -/

namespace Sys2Proof.Machine

namespace State

variable (s : State)

/-! ### A request's station -/

theorem atStation_of_gt {station : Nat} (h : 5 < station) (work : Fin 6 → Answer) :
    s.atStation station work = s.refuse .badValue := by
  rw [atStation, stationArg_of_gt h]

theorem atStation_of_absent {st : Fin 6} (h : (s.config st).present = false) (work : Fin 6 → Answer) :
    s.atStation st.val work = s.refuse .absent := by
  rw [atStation, stationArg_val]
  exact if_neg (by simp [h])

theorem atStation_of_present {st : Fin 6} (h : (s.config st).present = true) (work : Fin 6 → Answer) :
    s.atStation st.val work = work st := by
  rw [atStation, stationArg_val]
  exact if_pos h

/-! ### The HOLD output -/

theorem mem_allReasons (r : HoldReason) : r ∈ allReasons := by cases r <;> decide

/-- A reason holds the grinder of a present station (R112). -/
theorem holdOutput_of_holds {s : State} {st : Fin 6} {r : HoldReason} (hp : (s.config st).present = true)
    (hr : s.holds st r = true) : s.holdOutput st = true := by
  have member : r ∈ s.holdReasons st := by
    rw [holdReasons, if_pos hp]
    exact List.mem_filter.2 ⟨mem_allReasons r, hr⟩
  rw [holdOutput, Bool.not_eq_true', List.isEmpty_eq_false_iff]
  exact List.ne_nil_of_mem member

/-! ### What the two requests write -/

/-- The write of a HOLD (R114). -/
def forcedHeld (st : Fin 6) : State := s.setFlag st { s.flag st with forced := true }

/-- The writes of a CLEAR_FAULT (R103). -/
def faultsCleared (st : Fin 6) : State :=
  (s.setMonitor st { s.monitor st with power := ChannelState.fresh, ae := ChannelState.fresh }).setFlag st
    { s.flag st with sensor := false }

theorem forcedHeld_frame (st : Fin 6) : onlyChanges [.journal, .flags] s (s.forcedHeld st) := fun y hy => by
  cases y <;> first | rfl | simp at hy

theorem faultsCleared_frame (st : Fin 6) : onlyChanges [.journal, .flags, .monitors] s (s.faultsCleared st) := fun y hy => by
  cases y <;> first | rfl | simp at hy

variable {s}

theorem holdStation_of_present {st : Fin 6} (h : (s.config st).present = true) :
    s.holdStation st.val = (s.forcedHeld st).accept .ok := atStation_of_present s h _

theorem clearFault_of_present {st : Fin 6} (h : (s.config st).present = true) :
    s.clearFault st.val = (s.faultsCleared st).accept .ok := atStation_of_present s h _

end State

/-- Settles O42. -/
theorem holdAndClearFault : Obligations.HoldAndClearFault := by
  intro s station hp
  refine ⟨_, _, congrArg Host.Outcome.next (State.request_of_powered hp _),
    congrArg Host.Outcome.next (State.request_of_powered hp _), fun far => ?outOfRange, ?_⟩
  case outOfRange => exact ⟨refused_of (State.atStation_of_gt _ far _), refused_of (State.atStation_of_gt _ far _)⟩
  rintro st rfl
  refine ⟨fun absent => ?absent, fun present => ?present⟩
  case absent =>
    exact ⟨refused_of (State.atStation_of_absent s.atWork absent _), refused_of (State.atStation_of_absent s.atWork absent _)⟩
  case present =>
    rw [serve_taken (State.holdStation_of_present (s := s.atWork) present) rfl,
      serve_taken (State.clearFault_of_present (s := s.atWork) present) rfl]
    refine ⟨takenOk_of (s.atWork.forcedHeld_frame st), oneBecomes_set _ _ _, ?_,
      takenOk_of (s.atWork.faultsCleared_frame st), oneBecomes_set _ _ _, oneBecomes_set _ _ _⟩
    refine State.holdOutput_of_holds (r := .forced) present ?_
    simp [State.holds, State.forcedHeld]

end Sys2Proof.Machine
end

section
/-! The break of a tool, by a response or a verdict: it goes to selection where the tool's position serves, is due, waits or
runs on, and nowhere else (R97, R137). -/

namespace Sys2Proof.Machine

/-- The states in which a position acts on the break of its tool (R137). -/
def PositionState.actsOnBreak : PositionState → Bool
  | .serving => true
  | .due => true
  | .waiting => true
  | .runOn => true
  | .empty => false
  | .ordered => false
  | .timedOut => false
  | .halted => false

theorem PositionState.actsOnBreak_iff (x : PositionState) :
    x.actsOnBreak = true ↔ x = .serving ∨ x = .due ∨ x = .waiting ∨ x = .runOn := by
  cases x <;> simp [actsOnBreak]

theorem PositionState.not_actsOnBreak_iff (x : PositionState) :
    x.actsOnBreak = false ↔ x = .empty ∨ x = .ordered ∨ x = .timedOut ∨ x = .halted := by
  cases x <;> simp [actsOnBreak]

namespace State

variable {s : State}

theorem conditionReport_broken (s : State) (p : Fin 12) (old : Condition) :
    s.conditionReport p old .broken = if (s.position p).state.actsOnBreak then s.selection p else s := by
  unfold conditionReport
  dsimp only
  cases (s.position p).state <;> rfl

/-- A break hands over to the position that the tool is mounted at, when that acts on it. -/
theorem handOver_broken_selects {place : Placement} {p : Fin 12} (hp : place = .mounted p)
    (h : (s.position p).state.actsOnBreak = true) (old : Condition) : s.handOver place old .broken = s.selection p := by
  subst hp
  exact (s.conditionReport_broken p old).trans (if_pos h)

theorem handOver_broken_stands {place : Placement}
    (h : ∀ p, place = .mounted p → (s.position p).state.actsOnBreak = false) (old : Condition) :
    s.handOver place old .broken = s := by
  unfold handOver
  split
  · next p => exact (s.conditionReport_broken p old).trans (if_neg (by simp [h p rfl]))
  · rfl
  · rfl

theorem breakTool_of_broken {n : Nat} {x : Tool} (hx : s.tool? n = some x) (h : x.condition = .broken) :
    s.breakTool n = s := by
  unfold breakTool
  rw [hx]
  exact if_pos h

theorem breakTool_of_whole {n : Nat} {x : Tool} (hx : s.tool? n = some x) (h : x.condition ≠ .broken) :
    s.breakTool n = (s.setTool n { x with condition := .broken }).handOver x.placement x.condition .broken := by
  unfold breakTool
  rw [hx]
  exact if_neg h

end State

end Sys2Proof.Machine
end

section
/-! A detection: the response booked for it, its tally, and the repeat, the report or the incident that it brings (R93 to R97,
R106, R107); and the BURST that raises one (R89, R98). -/

namespace Sys2Proof.Machine

/-- The record of a detection's tool with the detection's tally raised (R94). -/
def Tool.tallied (x : Tool) (c : DetClass) : Tool := { x with tallies := x.tallies.bump c }

/-- The record of a tool after the incident opened under a response: CONDEMN breaks it (R97). -/
def Tool.underResponse (x : Tool) (r : Response) : Tool :=
  { x with condition := if r = .condemn then .broken else x.condition }

theorem Tool.underResponse_of_ne (x : Tool) {r : Response} (h : r ≠ .condemn) : x.underResponse r = x := by
  rw [underResponse, if_neg h]

theorem Tool.underResponse_of_broken {x : Tool} (h : x.condition = .broken) (r : Response) : x.underResponse r = x := by
  rw [underResponse, h, ite_self, ← h]

theorem Incident.repeated_eq (i : Incident) (tool : Nat) : i.repeated tool =
    { i with repeats := min 255 (i.repeats + 1), otherTool := i.otherTool || tool != i.tool } := by
  have other : decide (tool ≠ i.tool) = (tool != i.tool) := by simp [bne, beq_eq_decide]
  rw [repeated, other]

namespace State

variable {s : State} {d : Detection} {x : Tool}

/-! ### The booked response -/

theorem responseTo_of_ungrouped (hx : s.tool? d.tool = some x) (hg : x.group = 0) :
    s.responseTo d = defaultResponse d.cls := by
  unfold responseTo groupOf
  rw [hx]
  dsimp only
  rw [if_pos hg]

theorem responseTo_of_grouped {g : Group} (hx : s.tool? d.tool = some x) (h0 : x.group ≠ 0)
    (hg : s.group? x.group = some g) : s.responseTo d = g.responses.get d.cls := by
  unfold responseTo groupOf
  rw [hx]
  dsimp only
  rw [if_neg h0, hg]

/-- A write of the tool's record that leaves its group leaves the booked response. -/
theorem responseTo_setTool (hx : s.tool? d.tool = some x) {y : Tool} (hy : y.group = x.group) :
    (s.setTool d.tool y).responseTo d = s.responseTo d := by
  have group : (s.setTool d.tool y).groupOf y = s.groupOf x := by simp only [groupOf, hy, setTool_groupGet]
  have get : (s.setTool d.tool y).tool? d.tool = some y := by simp
  simp only [responseTo, get, hx, group]

/-! ### The incident -/

/-- The tool's record written and the incident of its detection opened (R94, R106). -/
def incidentWith (s : State) (d : Detection) (r : Response) (y : Tool) : State := (s.setTool d.tool y).openIncident d r

theorem incidentWith_frame (s : State) (d : Detection) (r : Response) (y : Tool) :
    onlyChanges [.tools, .incidents, .captures, .notices] s (s.incidentWith d r y) :=
  onlyChanges_trans (onlyChanges_mono (s.setTool_frame d.tool y) (by decide))
    (onlyChanges_mono (openIncident_frame _ d r) (by decide))

theorem incidentWith_toolBecomes (s : State) (d : Detection) (r : Response) (y : Tool) :
    toolBecomes d.tool (some y) s (s.incidentWith d r y) := setTool_toolGet s d.tool y

theorem incidentWith_notices {r : Response} {y : Tool} (h0 : d.tool ≠ 0) : (s.incidentWith d r y).notices =
    s.notices.push true ⟨.incident, some d.station, some d.posKind, d.tool, y.tag, d.value, d.cls.code * 256 + r.code,
      s.clock⟩ := by
  have tag : (s.setTool d.tool y).tagOf d.tool = y.tag := by simp [tagOf, h0]
  rw [← tag]
  rfl

/-- An incident reads of the tool's record the tag alone. -/
theorem openIncident_setTool {n : Nat} {y z : Tool} (hy : s.tool? n = some y) (hz : z.tag = y.tag) (hd : d.tool = n)
    (r : Response) : (s.setTool n z).openIncident d r = (s.openIncident d r).setTool n z := by
  have tag : (s.setTool n z).tagOf d.tool = s.tagOf d.tool := by simp [tagOf, hd, hy, hz]
  have notified : ((s.setTool n z).setIncident d.station
      ⟨true, some d.cls, some r, d.tool, some d.posKind, d.passClass, d.value, s.clock, 0, false⟩).tagOf d.tool =
        s.tagOf d.tool := tag
  unfold openIncident notify
  dsimp only [setTool_clock]
  rw [notified]
  rfl

/-- A second write of the tool's record that leaves its tag may be made before the incident opens. -/
theorem incidentWith_setTool {r : Response} {y z : Tool} (hz : z.tag = y.tag) :
    (s.incidentWith d r y).setTool d.tool z = s.incidentWith d r z := by
  have get : (s.setTool d.tool y).tool? d.tool = some y := by simp
  rw [incidentWith, ← openIncident_setTool get hz rfl, setTool_setTool, incidentWith]

/-! ### What a detection does -/

/-- A detection tallies first (R94). -/
theorem takeDetection_of_tool (hx : s.tool? d.tool = some x) :
    s.takeDetection d = (s.setTool d.tool (x.tallied d.cls)).answerDetection d :=
  congrArg (answerDetection · d) (modifyTool_of_some hx _)

/-- A repeat of an open incident (R107). -/
theorem takeDetection_of_open (hx : s.tool? d.tool = some x) (ho : (s.incident d.station).isOpen = true) :
    s.takeDetection d =
      (s.setTool d.tool (x.tallied d.cls)).setIncident d.station ((s.incident d.station).repeated d.tool) :=
  (takeDetection_of_tool hx).trans (if_pos ho)

/-- Without an open incident the booked response is carried out (R94). -/
theorem takeDetection_of_closed (hx : s.tool? d.tool = some x) (ho : (s.incident d.station).isOpen = false) :
    s.takeDetection d = (s.setTool d.tool (x.tallied d.cls)).respond d :=
  (takeDetection_of_tool hx).trans (if_neg (by simpa using ho))

/-- The booked response by its kinds, with the tool tallied. -/
theorem respond_tallied (hx : s.tool? d.tool = some x) : (s.setTool d.tool (x.tallied d.cls)).respond d =
    match s.responseTo d with
    | .ignore => s.setTool d.tool (x.tallied d.cls)
    | .report =>
      (s.setTool d.tool (x.tallied d.cls)).notify false .detection (some d.station) (some d.posKind) d.tool d.value
        (d.cls.code * 256 + classCode d.passClass)
    | .suspend => s.incidentWith d .suspend (x.tallied d.cls)
    | .condemn => (s.incidentWith d .condemn (x.tallied d.cls)).breakTool d.tool := by
  rw [respond, responseTo_setTool hx (y := x.tallied d.cls) rfl]
  cases s.responseTo d <;> rfl

/-- CONDEMN opens the incident, breaks the tool, and hands over a break that is new (R97). -/
theorem incidentWith_breakTool (s : State) (d : Detection) (y : Tool) :
    (s.incidentWith d .condemn y).breakTool d.tool =
      if y.condition = .broken then s.incidentWith d .condemn (y.underResponse .condemn)
      else (s.incidentWith d .condemn (y.underResponse .condemn)).handOver y.placement y.condition .broken := by
  have get : (s.incidentWith d .condemn y).tool? d.tool = some y := (incidentWith_toolBecomes s d _ y _).trans (if_pos rfl)
  split
  · next h => rw [breakTool_of_broken get h, Tool.underResponse_of_broken h]
  · next h =>
    have written := incidentWith_setTool (s := s) (d := d) (r := .condemn) (y := y) (z := y.underResponse .condemn) rfl
    exact (breakTool_of_whole get h).trans (congrArg (handOver · y.placement y.condition .broken) written)

variable {r : Response} (hx : s.tool? d.tool = some x) (ho : (s.incident d.station).isOpen = false)
  (hr : s.responseTo d = r)
include hx ho hr

/-- SUSPEND and CONDEMN open an incident, and nothing follows it where no position acts on a new break (R96, R97, R137). -/
theorem takeDetection_opens (hi : r = .suspend ∨ r = .condemn) (h : r = .condemn → x.condition = .broken ∨
    ∀ p, x.placement = .mounted p → (s.position p).state.actsOnBreak = false) :
    s.takeDetection d = s.incidentWith d r ((x.tallied d.cls).underResponse r) := by
  rw [takeDetection_of_closed hx ho, respond_tallied hx, hr]
  rcases hi with rfl | rfl
  · rw [Tool.underResponse_of_ne _ (by decide)]
  · refine (s.incidentWith_breakTool d _).trans ?_
    rcases h rfl with broken | stands
    · exact if_pos broken
    · split
      · rfl
      · exact handOver_broken_stands (s := s.incidentWith d .condemn _) stands _

/-- CONDEMN of a tool not yet BROKEN: the position that it is mounted at goes to selection, when it acts on it (R97, R137). -/
theorem takeDetection_condemns {p : Fin 12} (hc : r = .condemn) (hb : x.condition ≠ .broken)
    (hp : x.placement = .mounted p) (ha : (s.position p).state.actsOnBreak = true) :
    s.takeDetection d = (s.incidentWith d r ((x.tallied d.cls).underResponse r)).selection p := by
  subst hc
  rw [takeDetection_of_closed hx ho, respond_tallied hx, hr]
  refine (s.incidentWith_breakTool d _).trans ((if_neg hb).trans ?_)
  exact handOver_broken_selects (s := s.incidentWith d .condemn _) hp ha _

end State

/-! ### The BURST of a station -/

/-- The operation whose run has reached N (R88, R89). -/
theorem Monitor.burstReached_iff (m : Monitor) (l : Latched) : m.burstReached = some l ↔
    m.op = some l ∧ (m.state = .pass ∨ m.state = .dress) ∧ l.tool ≠ 0 ∧ l.void = false ∧ m.ae.fault = false ∧
      m.burstDone = false ∧ 0 < m.burstCounter ∧ ∃ k, l.check = some k ∧ k.persistence ≤ m.burstCounter := by
  rw [← m.operating_iff, ← l.live_iff]
  unfold burstReached
  split
  · next l' hop hrun =>
    rw [hop, hrun]
    constructor
    · intro h
      split at h
      · next k hk =>
        split at h
        · next due =>
          obtain rfl := Option.some.inj h
          obtain ⟨live, void, fault, done, counted, reached⟩ := due
          exact ⟨rfl, rfl, live, void, fault, done, counted, k, hk, reached⟩
        · cases h
      · cases h
    · rintro ⟨same, -, live, void, fault, done, counted, k, hk, reached⟩
      obtain rfl := Option.some.inj same
      rw [hk]
      exact if_pos ⟨live, void, fault, done, counted, reached⟩
  · next idle =>
    constructor
    · intro h; cases h
    · rintro ⟨hop, hrun, -⟩
      exact (idle l hop hrun).elim

namespace State

variable {s : State} {st : Fin 6}

/-- The state in which the detection of a BURST is taken: the mark, the run zeroed, and the commit (R89, R98). -/
def burstMarked (s : State) (st : Fin 6) (l : Latched) : State :=
  (s.setMonitor st { s.monitor st with burstDone := true, burstCounter := 0, runPeak := 0 }).commit [s.oldTool l.tool]

theorem burstMarked_frame (s : State) (st : Fin 6) (l : Latched) :
    onlyChanges [.monitors, .journal] s (s.burstMarked st l) := fun y hy => by
  cases y <;> first | rfl | simp at hy

theorem takeBurst_of_none (h : (s.monitor st).burstReached = none) : s.takeBurst st = s := by
  rcases s.takeBurst_cases st with ⟨-, same⟩ | ⟨l, hl, -⟩
  · exact same
  · rw [h] at hl; cases hl

theorem takeBurst_of_some {l : Latched} (h : (s.monitor st).burstReached = some l) :
    s.takeBurst st = (s.burstMarked st l).takeDetection ((s.monitor st).burstDetection st l) := by
  rcases s.takeBurst_cases st with ⟨hn, -⟩ | ⟨k, hk, taken⟩
  · rw [h] at hn; cases hn
  · obtain rfl : l = k := by rw [h] at hk; exact Option.some.inj hk
    exact taken

end State

/-- Settles O19: the response booked, the tally, and what follows it by the incident and the response; and the bare BURST,
which raises its detection exactly where the run of a live operation has reached N. -/
theorem burstIsAnswered : Obligations.BurstIsAnswered := by
  refine ⟨fun s d x hx => ⟨fun h0 => ?ungrouped, fun g h0 hg => ?grouped⟩, ?answered, ?burst⟩
  case ungrouped =>
    rw [State.responseTo_of_ungrouped hx h0]
    cases d.cls <;> rfl
  case grouped =>
    rw [State.responseTo_of_grouped hx h0 hg]
    cases d.cls <;> rfl
  case answered =>
    rintro s t d x y h0 hx rfl hy
    obtain rfl : y = x.tallied d.cls := by rw [hy, Tool.tallied]; cases d.cls <;> rfl
    have tallied := State.setTool_toolGet s d.tool (x.tallied d.cls)
    refine ⟨fun ho => ?repeated, fun ho hr => ?ignored, fun ho hr => ?reported, fun ho hr => ?opened⟩
    case repeated =>
      rw [State.takeDetection_of_open hx ho]
      refine ⟨fun z hz => ?_, tallied, ?_⟩
      · cases z <;> first | rfl | simp at hz
      · dsimp only
        rw [← Incident.repeated_eq]
        exact oneBecomes_set s.incidents d.station _
    case ignored =>
      rw [State.takeDetection_of_closed hx ho, State.respond_tallied hx, hr]
      exact ⟨s.setTool_frame d.tool _, tallied⟩
    case reported =>
      rw [State.takeDetection_of_closed hx ho, State.respond_tallied hx, hr]
      have tag : (s.setTool d.tool (x.tallied d.cls)).tagOf d.tool = x.tag := by
        simp [State.tagOf, h0, Tool.tallied]
      refine ⟨fun z hz => ?_, tallied, ?_⟩
      · cases z <;> first | rfl | simp at hz
      · rw [← tag]
        cases d.passClass <;> rfl
    case opened =>
      refine ⟨s.incidentWith d (s.responseTo d) ((x.tallied d.cls).underResponse (s.responseTo d)),
        s.incidentWith_frame d _ _, s.incidentWith_toolBecomes d _ _, oneBecomes_set _ _ _, oneBecomes_set _ _ _,
        State.incidentWith_notices h0, fun p hc hb hp hs => ?_, fun hs => ?_⟩
      · exact State.takeDetection_condemns hx ho rfl hc hb hp ((PositionState.actsOnBreak_iff _).2 hs)
      · refine State.takeDetection_opens hx ho rfl hr fun hc => (hs hc).imp_right fun stands p hp => ?_
        exact (PositionState.not_actsOnBreak_iff _).2 (stands p hp)
  case burst =>
    rintro s st m reached hp rfl hreached
    have due : ∀ l, reached l ↔ (s.monitor st).burstReached = some l := fun l =>
      (hreached l).trans ((s.monitor st).burstReached_iff l).symm
    refine ⟨_, congrArg Host.Outcome.next (State.event_of_powered hp _), fun hnot => ?_, ?_⟩
    · have notReached : ((s.withJournal []).monitor st).burstReached = none :=
        Option.eq_none_iff_forall_ne_some.2 fun l h => hnot l ((due l).2 h)
      rw [State.takeBurst_of_none notReached]
      intro z hz
      cases z <;> first | rfl | simp at hz
    · rintro l d hl rfl
      have reaches : ((s.withJournal []).monitor st).burstReached = some l := (due l).1 hl
      refine ⟨(s.withJournal []).burstMarked st l, fun z hz => ?_, rfl, oneBecomes_set _ _ _, State.takeBurst_of_some reaches⟩
      cases z <;> first | rfl | simp at hz

end Sys2Proof.Machine
end

section
/-! The capture ring after its trigger: 255 further samples leave it FILLING and the 256th freezes it, with the trigger sample
256 from its newest (R116, R117, R119). -/

namespace Sys2Proof.Machine

namespace Capture

variable {c : Capture} {slot : Nat}

/-! ### The write of one sample -/

theorem freeze_of_short (h : c.post < postTriggerSamples) : c.freeze = c := if_neg fun full => absurd full.2 (by omega)

theorem freeze_of_reached (hc : c.state = .filling) (h : postTriggerSamples ≤ c.post) :
    c.freeze = { c with state := .frozen } := if_pos ⟨hc, h⟩

/-- The write of a sample behind the trigger (R116, R117). -/
theorem store_of_filling (hc : c.state = .filling) (h : c.writesTrigger = false) (pair : Code × Code) : c.store pair =
    { c with
      samples := (pair :: c.samples).take ringSlots
      next := (c.next + 1) % ringSlots
      post := c.post + 1 } := by
  rw [store, if_neg (by simp [hc]), if_pos ⟨hc, h⟩]

/-! ### The samples behind a trigger -/

/-- A ring within its slots, FILLING, whose newest sample is that of its trigger (R116, R117). -/
structure AtTrigger (c : Capture) (slot : Nat) : Prop where
  filling : c.state = .filling
  trigger : c.trigger = some slot
  slot_lt : slot < 1024
  next : c.next = (slot + 1) % 1024
  post : c.post = 0
  length_le : c.samples.length ≤ 1024

/-- The ring with further samples written, oldest first, and counted, but without the freeze. -/
def storedAll (c : Capture) (pairs : List (Code × Code)) : Capture :=
  { c with
    samples := (pairs.reverse ++ c.samples).take ringSlots
    next := (c.next + pairs.length) % ringSlots
    post := c.post + pairs.length }

/-- The ring holds the 256 samples behind the trigger, and of those before as many as its slots leave room for (R116). -/
theorem length_storedAll {after : List (Code × Code)} (hl : after.length = 256) :
    (c.storedAll after).samples.length = min 1024 (c.samples.length + 256) := by
  simp only [storedAll, ringSlots, List.length_take, List.length_append, List.length_reverse, hl]
  omega

namespace AtTrigger

variable (h : c.AtTrigger slot)
include h

theorem storedAll_nil : c.storedAll [] = c := by
  have samples : c.samples.take ringSlots = c.samples := List.take_of_length_le h.length_le
  have next : c.next % ringSlots = c.next := by rw [h.next]; exact Nat.mod_mod ..
  simp [storedAll, samples, next]

/-- The ring comes round to the trigger's slot only after more samples than are written before the freeze. -/
theorem storedAll_writesTrigger {pairs : List (Code × Code)} (hl : pairs.length ≤ 255) :
    (c.storedAll pairs).writesTrigger = false := by
  have beyond : slot ≠ (c.next + pairs.length) % 1024 := by
    have := h.slot_lt
    rw [h.next]
    omega
  simp [writesTrigger, storedAll, h.trigger, ringSlots, beyond]

theorem storedAll_write {pairs : List (Code × Code)} (hl : pairs.length ≤ 255) (pair : Code × Code) :
    (c.storedAll pairs).write pair = (c.storedAll (pairs ++ [pair])).freeze := by
  rw [write, store_of_filling (c := c.storedAll pairs) h.filling (h.storedAll_writesTrigger hl)]
  congr 1
  simp [storedAll, ringSlots, List.take_take, Nat.add_assoc]

/-- Up to 255 samples leave the ring FILLING (R117). -/
theorem foldl_write_of_short {after : List (Code × Code)} (hl : after.length ≤ 255) :
    after.foldl write c = c.storedAll after := by
  induction after using List.reverseRecOn with
  | nil => exact h.storedAll_nil.symm
  | append_singleton pairs pair ih =>
    rw [List.length_append, List.length_singleton] at hl
    rw [List.foldl_append, ih (by omega), List.foldl_cons, List.foldl_nil, h.storedAll_write (by omega)]
    refine freeze_of_short ?_
    simp only [storedAll, h.post, List.length_append, List.length_singleton, postTriggerSamples]
    omega

/-- The 256th sample freezes the ring (R117). -/
theorem foldl_write_of_full {after : List (Code × Code)} (hl : after.length = 256) :
    after.foldl write c = { c.storedAll after with state := .frozen } := by
  rcases List.eq_nil_or_concat' after with rfl | ⟨pairs, pair, rfl⟩
  · cases hl
  · have short : pairs.length ≤ 255 := by simp at hl; omega
    rw [List.foldl_append, h.foldl_write_of_short short, List.foldl_cons, List.foldl_nil, h.storedAll_write short]
    refine freeze_of_reached h.filling ?_
    simp only [storedAll, h.post, hl, postTriggerSamples]
    omega

/-- The trigger stands 256 from the newest sample (R119). -/
theorem storedAll_triggerIndex {after : List (Code × Code)} (hl : after.length = 256) (hne : 0 < c.samples.length) :
    (c.storedAll after).triggerIndex + 257 = (c.storedAll after).samples.length := by
  have := h.slot_lt
  have index : (c.storedAll after).triggerIndex =
      (slot + 1024 + min 1024 (c.samples.length + 256) - (c.next + 256) % 1024) % 1024 := by
    simp only [triggerIndex, length_storedAll hl]
    simp only [storedAll, h.trigger, hl, ringSlots]
  rw [index, length_storedAll hl, h.next]
  omega

/-- The sample at the trigger's index is the one that was newest at the trigger. -/
theorem storedAll_trigger_sample {after older : List (Code × Code)} {first : Code × Code} (hl : after.length = 256)
    (hs : c.samples = first :: older) :
    (c.storedAll after).samples.reverse[(c.storedAll after).triggerIndex]? = some first := by
  have index := h.storedAll_triggerIndex hl (by simp [hs])
  have place : (c.storedAll after).samples.length - 1 - (c.storedAll after).triggerIndex = 256 := by omega
  rw [List.getElem?_reverse (by omega), place]
  simp [storedAll, ringSlots, hl, hs]

end AtTrigger
end Capture

/-- Settles O21: the bare freeze, and the samples behind a trigger counted one by one. -/
theorem captureFreezesOnItsTrigger : Obligations.CaptureFreezesOnItsTrigger := by
  refine ⟨fun s st hp => ?bare, ?samples⟩
  case bare =>
    refine ⟨_, congrArg Host.Outcome.next (State.event_of_powered hp _), fun y hy => ?_, oneBecomes_set _ _ _⟩
    cases y <;> first | rfl | simp at hy
  case samples =>
    intro c slot first older after hc ht hslot hnext hpost hs hlen
    have trigger : c.AtTrigger slot := ⟨hc, ht, hslot, hnext, hpost, hlen⟩
    refine ⟨fun short => ?_, fun full => ?_⟩
    · rw [trigger.foldl_write_of_short short]
      exact hc
    · rw [trigger.foldl_write_of_full full]
      exact ⟨rfl, Capture.length_storedAll full, trigger.storedAll_triggerIndex full (by simp [hs]),
        trigger.storedAll_trigger_sample full hs⟩

end Sys2Proof.Machine
end

section
/-! READ_CAPTURE: the body as a run of fields, three bytes for each sample pair (R119, R177, Table 10-8). -/

namespace Sys2Proof.Machine

theorem layout_append (l m : List (Nat × Nat)) : layout (l ++ m) = layout l ++ layout m := List.flatMap_append

namespace Capture

variable (c : Capture) (start : Nat)

/-- The field of a sample pair in Table 10-8. -/
def pairField (pair : Code × Code) : Nat × Nat := (3, pair.1.toNat * 4096 + pair.2.toNat)

/-- The fields of Table 10-8 before the pairs. -/
def headFields : List (Nat × Nat) :=
  [(2, c.samples.length), (2, c.triggerIndex), (1, (c.entriesFrom start).length)]

theorem length_entriesFrom : (c.entriesFrom start).length = min 64 (c.samples.length - start) := by
  simp [entriesFrom]

theorem entriesFrom_getElem? {i : Nat} (h : i < 64) : (c.entriesFrom start)[i]? = c.samples.reverse[start + i]? := by
  rw [entriesFrom, List.getElem?_take_of_lt h, List.getElem?_drop]

theorem readBytes_eq : c.readBytes start = layout (c.headFields start ++ (c.entriesFrom start).map pairField) := by
  simp only [readBytes, headFields, layout, List.flatMap_append, List.flatMap_cons, List.flatMap_nil, List.flatMap_map,
    List.append_assoc, List.append_nil]
  rfl

theorem length_pairs (pairs : List (Code × Code)) : (layout (pairs.map pairField)).length = 3 * pairs.length := by
  simp [length_layout, pairField, Function.comp_def, Nat.mul_comm]

theorem length_headFields : (layout (c.headFields start)).length = 5 := length_layout _

theorem length_readBytes : (c.readBytes start).length = 5 + 3 * (c.entriesFrom start).length := by
  rw [readBytes_eq, layout_append, List.length_append, length_headFields, length_pairs]

theorem readBytes_head : bodyHolds (c.readBytes start) (offsets 0 (c.headFields start)) := by
  rw [readBytes_eq, layout_append]
  exact bodyHolds_between (before := []) rfl

/-- Two 12-bit codes fill three bytes. -/
theorem pairField_lt (pair : Code × Code) : (pairField pair).2 < 256 ^ 3 := by
  have power : pair.1.toNat < 2 ^ 12 := pair.1.isLt
  have ae : pair.2.toNat < 2 ^ 12 := pair.2.isLt
  simp only [pairField]
  omega

theorem readBytes_pair {i : Nat} {pair : Code × Code} (h : (c.entriesFrom start)[i]? = some pair) :
    field (c.readBytes start) (5 + 3 * i) 3 = pair.1.toNat * 4096 + pair.2.toNat := by
  obtain ⟨hi, rfl⟩ := List.getElem?_eq_some_iff.1 h
  generalize hfields : (c.entriesFrom start) = pairs at hi ⊢
  have body : c.readBytes start = layout (c.headFields start ++ (pairs.take i).map pairField) ++
      (layout [pairField pairs[i]] ++ layout ((pairs.drop (i + 1)).map pairField)) := by
    rw [← layout_append, ← layout_append, readBytes_eq, hfields, List.append_assoc]
    congr 2
    rw [List.singleton_append, ← List.map_cons, ← List.map_append, ← List.drop_eq_getElem_cons hi, List.take_append_drop]
  have place : (layout (c.headFields start ++ (pairs.take i).map pairField)).length = 5 + 3 * i := by
    rw [layout_append, List.length_append, length_headFields, length_pairs, List.length_take, Nat.min_eq_left (by omega)]
  have holds := bodyHolds_between (after := layout ((pairs.drop (i + 1)).map pairField)) (l := [pairField pairs[i]]) place
  rw [← body] at holds
  exact (holds _ (List.mem_singleton_self _)).trans (Nat.mod_eq_of_lt (pairField_lt _))

end Capture

/-- Settles O45. -/
theorem readCaptureReturnsTheRing : Obligations.ReadCaptureReturnsTheRing := by
  intro s station start hp
  refine ⟨_, congrArg Host.Outcome.next (State.request_of_powered hp _),
    fun far => refused_of (State.atStation_of_gt _ far _), ?_⟩
  rintro st c count rfl rfl rfl
  split
  · next absent => exact refused_of (State.atStation_of_absent s.atWork absent _)
  · next there =>
    have work := State.atStation_of_present s.atWork (st := st) (by simpa using there) fun st =>
      if (s.atWork.capture st).state = .frozen then ⟨s.atWork, .ok, (s.atWork.capture st).readBytes start⟩
      else s.atWork.refuse .notReady
    split
    · next running => exact refused_of (work.trans (if_neg running))
    · next frozen =>
      have alone : onlyChanges [.journal] s.atWork s.atWork := s.atWork.onlyChanges_refl _
      rw [serve_taken (work.trans (if_pos (not_not.1 frozen))) rfl, ← Capture.length_entriesFrom]
      refine ⟨_, rfl, onlyChanges_withLink (parts := []) alone, (s.capture st).length_readBytes start,
        (s.capture st).readBytes_head start, fun i hi pair hpair => Capture.readBytes_pair _ _ ?_⟩
      rw [Capture.entriesFrom_getElem? _ _ (by rw [Capture.length_entriesFrom] at hi; omega)]
      exact hpair

end Sys2Proof.Machine
end

section
/-! RESUME: FORCED and STARTUP cleared, and after a start-up the DUE positions of the station sent to selection (R114). -/

namespace Sys2Proof.Machine

namespace State

variable (s : State)

/-- The write of a RESUME (R114). -/
def resumed (st : Fin 6) : State := s.setFlag st { s.flag st with forced := false, startup := false }

theorem resumed_frame (st : Fin 6) : onlyChanges [.journal, .flags] s (s.resumed st) := fun y hy => by
  cases y <;> first | rfl | simp at hy

@[simp] theorem resumeAt_link (p : Fin 12) : (s.resumeAt p).link = s.link := by
  unfold resumeAt
  split
  · exact selection_link ..
  · rfl

theorem withLink_resumeAt (p : Fin 12) (l : LinkPort) : (s.withLink l).resumeAt p = (s.resumeAt p).withLink l := by
  unfold resumeAt
  rw [withLink_position, withLink_selection]
  split <;> rfl

/-- The selections of a RESUME after a start-up: the wheel position's first (R114). -/
def resumeSeats (startup : Bool) (st : Fin 6) (s : State) : State :=
  if startup then (s.resumeAt (wheelPos st)).resumeAt (dresserPos st) else s

theorem resumeSeats_link (startup : Bool) (st : Fin 6) : (s.resumeSeats startup st).link = s.link := by
  cases startup
  · rfl
  · exact (resumeAt_link ..).trans (resumeAt_link ..)

theorem withLink_resumeSeats (startup : Bool) (st : Fin 6) (l : LinkPort) :
    (s.withLink l).resumeSeats startup st = (s.resumeSeats startup st).withLink l := by
  cases startup
  · rfl
  · simp only [resumeSeats, if_true, withLink_resumeAt]

variable {s}

theorem resumeStation_of_present {st : Fin 6} (h : (s.config st).present = true) :
    s.resumeStation st.val = ((s.resumed st).resumeSeats (s.flag st).startup st).accept .ok := atStation_of_present s h _

end State

/-- Settles O43. -/
theorem resumeSelectsAfterStartup : Obligations.ResumeSelectsAfterStartup := by
  intro s station hp
  refine ⟨_, congrArg Host.Outcome.next (State.request_of_powered hp _),
    fun far => refused_of (State.atStation_of_gt _ far _), ?_⟩
  rintro st rfl
  refine ⟨fun absent => refused_of (State.atStation_of_absent s.atWork absent _), fun present => ?present⟩
  case present =>
    have served := serve_taken_then (work := fun u => u.resumeStation st.val) (f := State.resumeSeats (s.flag st).startup st)
      (State.resumeStation_of_present (s := s.atWork) present) rfl (State.resumeSeats_link ..)
      fun _ => State.withLink_resumeSeats ..
    exact ⟨_, _, _, takenOk_of (s.atWork.resumed_frame st), oneBecomes_set _ _ _, rfl, rfl, served⟩

end Sys2Proof.Machine
end

section
/-! VERDICT: the incident closed and its capture released, the tool of a SUSPEND incident broken by a BROKEN verdict, and the
selection for its position (R109, R110, R111). -/

namespace Sys2Proof.Machine

theorem verdictArg_of_gt {n : Nat} (h : 1 < n) : verdictArg n = none := by
  unfold verdictArg
  split <;> first | omega | rfl

theorem verdictArg_of_le {n : Nat} (h : n ≤ 1) : verdictArg n = some (decide (n = 1)) := by
  obtain rfl | rfl : n = 0 ∨ n = 1 := by omega
  · rfl
  · rfl

namespace State

variable (s : State)

/-! ### The break, and the hand-over after it -/

/-- The record of a tool made BROKEN, without the hand-over; a tool already BROKEN is not written (R10). -/
def brokenRecord (n : Nat) : State :=
  match s.tool? n with
  | none => s
  | some x => if x.condition = .broken then s else s.setTool n { x with condition := .broken }

variable {s} {n : Nat} {x : Tool}

theorem brokenRecord_of_none (hn : s.tool? n = none) : s.brokenRecord n = s := by
  rw [brokenRecord, hn]

theorem brokenRecord_of_broken (hx : s.tool? n = some x) (h : x.condition = .broken) : s.brokenRecord n = s := by
  rw [brokenRecord, hx]
  exact if_pos h

theorem brokenRecord_of_whole (hx : s.tool? n = some x) (h : x.condition ≠ .broken) :
    s.brokenRecord n = s.setTool n { x with condition := .broken } := by
  rw [brokenRecord, hx]
  exact if_neg h

/-- A break is the write of the record, and the hand-over of a break that is new (R10, R97). -/
theorem breakTool_eq (hx : s.tool? n = some x) : s.breakTool n =
    if x.condition = .broken then s.brokenRecord n
    else (s.brokenRecord n).handOver x.placement x.condition .broken := by
  split
  · next h => rw [breakTool_of_broken hx h, brokenRecord_of_broken hx h]
  · next h => rw [breakTool_of_whole hx h, brokenRecord_of_whole hx h]

variable (s)

theorem brokenRecord_frame (n : Nat) : onlyChanges [.tools] s (s.brokenRecord n) := by
  unfold brokenRecord
  split
  · exact s.onlyChanges_refl _
  · split
    · exact s.onlyChanges_refl _
    · exact s.setTool_frame n _

theorem brokenRecord_position (n : Nat) (p : Fin 12) : (s.brokenRecord n).position p = s.position p :=
  congrArg (·[p]) (s.brokenRecord_frame n .positions (by decide))

theorem brokenRecord_toolGet (n m : Nat) : (s.brokenRecord n).tool? m =
    if m = n then (s.tool? m).map fun x => { x with condition := .broken } else s.tool? m := by
  split
  case isTrue same =>
    subst same
    rcases hx : s.tool? m with - | x
    · rw [brokenRecord_of_none hx, hx]
      rfl
    · by_cases h : x.condition = .broken
      · rw [brokenRecord_of_broken hx h, hx, Option.map_some, ← h]
      · rw [brokenRecord_of_whole hx h, setTool_toolGet, if_pos rfl]
        rfl
  case isFalse other =>
    rcases hx : s.tool? n with - | x
    · rw [brokenRecord_of_none hx]
    · by_cases h : x.condition = .broken
      · rw [brokenRecord_of_broken hx h]
      · rw [brokenRecord_of_whole hx h, setTool_toolGet, if_neg other]

variable {s}

/-- The break of a tool whose position acts on it (R97, R137). -/
theorem breakTool_selects {p : Fin 12} (hx : s.tool? n = some x) (hb : x.condition ≠ .broken)
    (hp : x.placement = .mounted p) (ha : (s.position p).state.actsOnBreak = true) :
    s.breakTool n = (s.brokenRecord n).selection p :=
  ((breakTool_eq hx).trans (if_neg hb)).trans (handOver_broken_selects hp (by rwa [brokenRecord_position]) _)

/-- The break of a tool that no position acts on (R97, R137). -/
theorem breakTool_stands (h : ∀ x, s.tool? n = some x → x.condition = .broken ∨
    ∀ p, x.placement = .mounted p → (s.position p).state.actsOnBreak = false) : s.breakTool n = s.brokenRecord n := by
  rcases hx : s.tool? n with - | x
  · rw [brokenRecord_of_none hx, breakTool, hx]
  · rw [breakTool_eq hx]
    split
    · rfl
    · next whole =>
      refine handOver_broken_stands (fun p hp => ?_) _
      rw [brokenRecord_position]
      exact (h x hx).resolve_left whole p hp

/-! ### The writes of a verdict -/

variable (s)

/-- The record of an incident's tool after a verdict (R111). -/
def verdictRecord (i : Incident) (judged : Nat) : State :=
  if judged = 1 ∧ i.response = some .suspend ∧ i.tool ≠ 0 then (s.commit [s.oldTool i.tool]).brokenRecord i.tool else s

/-- The writes of a VERDICT, before a selection (R109, R111). -/
def judgedIncident (st : Fin 6) (judged : Nat) : State := (s.verdictRecord (s.incident st) judged).closeIncident st

theorem verdictRecord_frame (i : Incident) (judged : Nat) : onlyChanges [.journal, .tools] s (s.verdictRecord i judged) := by
  unfold verdictRecord
  split
  · refine onlyChanges_trans (t := s.commit [s.oldTool i.tool]) (fun y hy => ?_)
      (onlyChanges_mono (brokenRecord_frame _ i.tool) (by decide))
    cases y <;> first | rfl | simp at hy
  · exact s.onlyChanges_refl _

theorem verdictRecord_toolGet (i : Incident) (judged n : Nat) : (s.verdictRecord i judged).tool? n =
    if judged = 1 ∧ i.response = some .suspend ∧ i.tool ≠ 0 ∧ n = i.tool then
      (s.tool? n).map fun x => { x with condition := .broken }
    else s.tool? n := by
  unfold verdictRecord
  split
  · next breaks =>
    obtain ⟨hb, hr, h0⟩ := breaks
    simp only [hb, hr, h0, ne_eq, not_false_eq_true, true_and]
    exact brokenRecord_toolGet ..
  · next stands => exact (if_neg fun ⟨hb, hr, h0, _⟩ => stands ⟨hb, hr, h0⟩).symm

theorem closeIncident_frame (st : Fin 6) : onlyChanges [.incidents, .captures] s (s.closeIncident st) := fun y hy => by
  cases y <;> first | rfl | simp at hy

theorem judgedIncident_frame (st : Fin 6) (judged : Nat) :
    onlyChanges [.journal, .tools, .incidents, .captures] s (s.judgedIncident st judged) :=
  onlyChanges_trans (onlyChanges_mono (s.verdictRecord_frame _ judged) (by decide))
    (onlyChanges_mono (closeIncident_frame _ st) (by decide))

theorem judgedIncident_incidents (st : Fin 6) (judged : Nat) : (s.judgedIncident st judged).incidents =
    s.incidents.set st { s.incident st with isOpen := false } := by
  have incidents : (s.verdictRecord (s.incident st) judged).incidents = s.incidents :=
    s.verdictRecord_frame _ judged .incidents (by decide)
  have same : (s.verdictRecord (s.incident st) judged).incident st = s.incident st := congrArg (·[st]) incidents
  rw [judgedIncident, closeIncident, same, setCapture_incidents, setIncident_incidents, incidents]

theorem judgedIncident_captures (st : Fin 6) (judged : Nat) : (s.judgedIncident st judged).captures =
    s.captures.set st (s.capture st).release := by
  have captures : (s.verdictRecord (s.incident st) judged).captures = s.captures :=
    s.verdictRecord_frame _ judged .captures (by decide)
  have same : (s.verdictRecord (s.incident st) judged).capture st = s.capture st := congrArg (·[st]) captures
  rw [judgedIncident, closeIncident, same, setCapture_captures, setIncident_captures, captures]

/-- A selection does not read the incident that a verdict closes. -/
theorem selection_closeIncident (st : Fin 6) (p : Fin 12) :
    (s.selection p).closeIncident st = (s.closeIncident st).selection p := by
  have close := congrArg (closeIncident · st) (beside_selection s s p)
  exact close.trans (beside_selection s (s.closeIncident st) p).symm

variable {s}

/-! ### What a verdict does -/

theorem verdict_of_bad {station judged : Nat} (h : 5 < station ∨ 1 < judged) :
    s.verdict station judged = s.refuse .badValue := by
  unfold verdict
  rcases h with far | wrong
  · rw [stationArg_of_gt far]
  · rw [verdictArg_of_gt wrong]
    cases stationArg station <;> rfl

/-- The checks of R110 in their order. -/
theorem verdict_checked (st : Fin 6) {judged : Nat} (h : judged ≤ 1) : s.verdict st.val judged =
    if (s.config st).present = false then s.refuse .absent
    else if (s.incident st).isOpen = false then s.refuse .wrongState
    else if (s.incident st).response = some .condemn ∧ judged = 0 then s.refuse .wrongState
    else ((s.condemnByVerdict (s.incident st) (decide (judged = 1))).closeIncident st).accept .ok := by
  have sound : decide (judged = 1) = false ↔ judged = 0 := by rw [decide_eq_false_iff_not]; omega
  unfold verdict
  rw [stationArg_val, verdictArg_of_le h]
  simp only [sound]

/-- A BROKEN verdict on a tool whose position acts on the break (R111, R137). -/
theorem condemnByVerdict_selects {i : Incident} {p : Fin 12} {judged : Nat} (hj : judged = 1)
    (hr : i.response = some .suspend) (h0 : i.tool ≠ 0) (hx : s.tool? i.tool = some x) (hb : x.condition ≠ .broken)
    (hp : x.placement = .mounted p) (ha : (s.position p).state.actsOnBreak = true) :
    s.condemnByVerdict i (decide (judged = 1)) = (s.verdictRecord i judged).selection p := by
  unfold condemnByVerdict verdictRecord
  rw [if_pos ⟨decide_eq_true hj, hr, h0⟩, if_pos ⟨hj, hr, h0⟩]
  exact breakTool_selects (s := s.commit [s.oldTool i.tool]) hx hb hp ha

/-- A verdict that breaks no tool, or one that no position acts on (R111, R137). -/
theorem condemnByVerdict_stands {i : Incident} {judged : Nat} (h : judged = 1 → i.response = some .suspend →
    i.tool ≠ 0 → ∀ x, s.tool? i.tool = some x →
      x.condition = .broken ∨ ∀ p, x.placement = .mounted p → (s.position p).state.actsOnBreak = false) :
    s.condemnByVerdict i (decide (judged = 1)) = s.verdictRecord i judged := by
  unfold condemnByVerdict verdictRecord
  simp only [decide_eq_true_iff]
  split
  · next breaks =>
    obtain ⟨hj, hr, h0⟩ := breaks
    exact breakTool_stands (s := s.commit [s.oldTool i.tool]) (h hj hr h0)
  · rfl

end State

/-- Settles O41: the writes of the verdict, and the selection that a new break of the tool brings. -/
theorem verdictClosesTheIncident : Obligations.VerdictClosesTheIncident := by
  intro s station judged hp
  refine ⟨_, congrArg Host.Outcome.next (State.request_of_powered hp _), fun bad => refused_of (State.verdict_of_bad bad), ?_⟩
  rintro st i rfl hj rfl
  have checked := State.verdict_checked (s := s.atWork) st hj
  rw [State.atWork_config, State.atWork_incident] at checked
  split
  · next absent => exact refused_of (checked.trans (if_pos absent))
  next present =>
  rw [if_neg present] at checked
  split
  · next shut => exact refused_of (checked.trans (if_pos shut))
  next opened =>
  rw [if_neg opened] at checked
  split
  · next condemned => exact refused_of (checked.trans (if_pos condemned))
  next judgeable =>
  rw [if_neg judgeable] at checked
  have frame := s.atWork.judgedIncident_frame st judged
  have link : (s.atWork.judgedIncident st judged).link = s.link.executing := frame .link (by decide)
  refine ⟨_, takenOk_of frame, ?incident, ?capture, s.atWork.verdictRecord_toolGet (s.incident st) judged,
    fun p x hb hr h0 hx hc hm hs => ?selects, fun hs => ?stands⟩
  case incident =>
    rw [State.withLink_incidents, State.judgedIncident_incidents]
    exact oneBecomes_set _ _ _
  case capture =>
    rw [State.withLink_captures, State.judgedIncident_captures]
    exact oneBecomes_set _ _ _
  case selects =>
    have acts := (PositionState.actsOnBreak_iff _).2 hs
    rw [State.condemnByVerdict_selects (s := s.atWork) hb hr h0 hx hc hm acts, State.selection_closeIncident] at checked
    exact serve_taken_then (work := fun u => u.verdict st.val judged) (f := fun u => u.selection p) checked link
      (State.selection_link ..) fun _ => State.withLink_selection ..
  case stands =>
    rw [State.condemnByVerdict_stands (s := s.atWork) fun hb hr h0 x hx => (hs hb hr h0 x hx).imp_right fun stands p hm =>
      (PositionState.not_actsOnBreak_iff _).2 (stands p hm)] at checked
    exact serve_taken (work := fun u => u.verdict st.val judged) checked link

end Sys2Proof.Machine
end

section
/-! The lines and the summary byte: what the hold reasons say of a station, and their numbers bit by bit (R112, R160, R170,
R178). -/

namespace Sys2Proof.Machine

/-! ### Flags as the bits of a number -/

theorem flagCode_eq_toNat (b : Bool) : flagCode b = b.toNat := by cases b <;> rfl

theorem mem_allStations (st : Fin 6) : st ∈ allStations := by
  revert st
  decide

theorem any_allStations_iff (f : Fin 6 → Bool) : allStations.any f = true ↔ ∃ st, f st = true := by
  simp only [List.any_eq_true, mem_allStations, true_and]

theorem HoldReason.exists_iff {f : HoldReason → Prop} : (∃ r, f r) ↔ f .startup ∨ f .forced ∨ f .incident ∨ f .sensor ∨
    f .noTool ∨ f .swap ∨ f .swapTimeout ∨ f .halted ∨ f .noSister := by
  refine ⟨fun ⟨r, hr⟩ => by cases r <;> simp [hr], ?_⟩
  rintro (h | h | h | h | h | h | h | h | h) <;> exact ⟨_, h⟩

namespace State

variable (s : State) (st : Fin 6)

/-! ### The hold reasons of a station -/

theorem stationHas_iff (x : PositionState) :
    s.stationHas st x = true ↔ ∃ p ∈ [wheelPos st, dresserPos st], (s.position p).state = x := by
  simp [stationHas]

/-- HOLD is asserted exactly when a reason of R112 holds a present station. -/
theorem holdOutput_iff : s.holdOutput st = true ↔ (s.config st).present = true ∧ ∃ r, s.holds st r = true := by
  refine ⟨fun held => ?_, fun ⟨present, r, hr⟩ => holdOutput_of_holds present hr⟩
  have some : s.holdReasons st ≠ [] := by simpa [holdOutput] using held
  obtain ⟨r, hr⟩ := List.exists_mem_of_ne_nil _ some
  by_cases present : (s.config st).present = true
  · rw [holdReasons, if_pos present] at hr
    exact ⟨present, r, (List.mem_filter.1 hr).2⟩
  · rw [holdReasons, if_neg present] at hr
    cases hr

/-- A reason holds a station: one of its own flags, its open incident, its missing wheel, or the state of one of its
positions. -/
theorem exists_holds_iff : (∃ r, s.holds st r = true) ↔
    (s.flag st).startup = true ∨ (s.flag st).forced = true ∨ (s.incident st).isOpen = true ∨ (s.flag st).sensor = true ∨
      (s.position (wheelPos st)).state = .empty ∨
      ∃ p ∈ [wheelPos st, dresserPos st], (s.position p).state ∈ [.ordered, .timedOut, .halted, .waiting] := by
  rw [HoldReason.exists_iff]
  simp only [holds, decide_eq_true_iff, stationHas_iff, List.mem_cons, List.not_mem_nil, or_false, and_or_left, exists_or]

/-! ### The two numbers, bit by bit -/

/-- The reasons of R112 as the bits of R178, bit 0 first. -/
def reasonFlags : Fin 9 → Bool :=
  ![s.holds st .startup, s.holds st .forced, s.holds st .incident, s.holds st .sensor, s.holds st .noTool,
    s.holds st .swap, s.holds st .swapTimeout, s.holds st .halted, s.holds st .noSister]

theorem holdReasonBits_of_present (h : (s.config st).present = true) :
    s.holdReasonBits st = Nat.ofBits (s.reasonFlags st) := by
  rw [holdReasonBits, if_pos h]
  simp only [flagCode_eq_toNat, reasonFlags, Nat.ofBits, Fin.foldr_succ, Fin.foldr_zero,
    Fin.succ_zero_eq_one, Fin.succ_one_eq_two, Fin.reduceSucc, Matrix.cons_val_zero, Matrix.cons_val_one, Matrix.cons_val]
  omega

theorem holdReasonBits_testBit (h : (s.config st).present = true) (i : Fin 9) :
    (s.holdReasonBits st).testBit i = s.reasonFlags st i := by
  rw [s.holdReasonBits_of_present st h, Nat.testBit_ofBits_lt _ _ i.isLt]

theorem holdReasonBits_lt (h : (s.config st).present = true) : s.holdReasonBits st < 512 := by
  rw [s.holdReasonBits_of_present st h]
  exact Nat.ofBits_lt_two_pow _

/-- The summary of Table 10-4, bit 0 first. -/
def summaryFlags : Fin 8 → Bool :=
  ![s.attention, allStations.any fun st => (s.config st).present && (s.flag st).startup,
    allStations.any fun st => (s.incident st).isOpen, allStations.any fun st => (s.config st).present && s.holdOutput st,
    s.notices.routineLost, s.notices.urgentLost, !s.notices.routine.isEmpty, !s.notices.urgent.isEmpty]

theorem summaryByte_getLsbD (i : Fin 8) : s.summaryByte.getLsbD i = s.summaryFlags i := by
  have bits : s.summaryByte = BitVec.ofNat 8 (Nat.ofBits s.summaryFlags) := by
    rw [summaryByte]
    congr 1
    simp only [flagCode_eq_toNat, summaryFlags, Nat.ofBits, Fin.foldr_succ, Fin.foldr_zero,
      Fin.succ_zero_eq_one, Fin.succ_one_eq_two, Fin.reduceSucc, Matrix.cons_val_zero, Matrix.cons_val_one, Matrix.cons_val]
    omega
  rw [bits, BitVec.getLsbD_ofNat, Nat.testBit_ofBits_lt _ _ i.isLt]
  simp

theorem attention_iff : s.attention = true ↔ (s.notices.urgentEnable = true ∧ s.notices.urgent ≠ []) ∨
    (s.notices.routineEnable = true ∧ s.notices.level ≤ s.notices.routine.length) := by
  simp [attention, NoticeQueues.attention]

end State

/-- Settles O53: HOLD through its reasons, and each number through its flags. -/
theorem outputsShowTheState : Obligations.OutputsShowTheState := by
  intro s
  refine ⟨fun st => ?hold, ?reasons, s.attention_iff, s.summaryByte_getLsbD 7, s.summaryByte_getLsbD 6,
    s.summaryByte_getLsbD 5, s.summaryByte_getLsbD 4, ?held, ?opened, ?started, s.summaryByte_getLsbD 0⟩
  case hold => rw [s.holdOutput_iff, s.exists_holds_iff]
  case reasons =>
    rintro st bits rfl
    refine ⟨fun absent => if_neg (by simp [absent]), fun present => ?_⟩
    have bit := s.holdReasonBits_testBit st present
    have seat (i : Fin 9) (x : PositionState) (hx : s.reasonFlags st i = s.stationHas st x) :
        (s.holdReasonBits st).testBit i = true ↔ ∃ p ∈ [wheelPos st, dresserPos st], (s.position p).state = x := by
      rw [bit, hx, s.stationHas_iff]
    refine ⟨s.holdReasonBits_lt st present, bit 0, bit 1, bit 2, bit 3, ?_, seat 5 .ordered rfl, seat 6 .timedOut rfl,
      seat 7 .halted rfl, seat 8 .waiting rfl⟩
    exact (Bool.eq_iff_iff.1 (bit 4)).trans decide_eq_true_iff
  case held =>
    have present : ∀ st, ((s.config st).present && s.holdOutput st) = true ↔ s.holdOutput st = true := fun st =>
      Bool.and_eq_true_iff.trans (and_iff_right_of_imp fun held => ((s.holdOutput_iff st).1 held).1)
    rw [← exists_congr present, ← any_allStations_iff]
    exact Bool.eq_iff_iff.1 (s.summaryByte_getLsbD 3)
  case opened =>
    rw [← any_allStations_iff fun st => (s.incident st).isOpen]
    exact Bool.eq_iff_iff.1 (s.summaryByte_getLsbD 2)
  case started =>
    rw [← exists_congr fun st => Bool.and_eq_true_iff (x := (s.config st).present) (y := (s.flag st).startup),
      ← any_allStations_iff]
    exact Bool.eq_iff_iff.1 (s.summaryByte_getLsbD 1)

end Sys2Proof.Machine
end

section
/-! DELETE_GROUP: refused, or its members freed and its record undefined (R125). -/

namespace Sys2Proof.Machine

theorem isGroupNumber_of_bad {n : Nat} (h : n = 0 ∨ 32 < n) : isGroupNumber n = false := by
  rw [← Bool.not_eq_true, isGroupNumber_iff]; omega

theorem isGroupNumber_of_good {n : Nat} (h : ¬ (n = 0 ∨ 32 < n)) : isGroupNumber n = true := by
  rw [isGroupNumber_iff]; omega

namespace State

/-- A DELETE_GROUP is BUSY for a group with a waiting position or a RESERVED member (R125). -/
theorem deleteGroup_of_defined {s : State} {group : Nat} {g : Group} (hn : isGroupNumber group = true)
    (hg : s.group? group = some g) : s.deleteGroup group =
      if g.waiting ≠ [] ∨ ∃ n ∈ g.chain, s.toolReserved n = true then s.refuse .busy
      else (s.disband group g).accept .ok := by
  unfold deleteGroup
  rw [hn, hg]
  simp only [if_true, Bool.or_eq_true, Bool.not_eq_true', List.isEmpty_eq_false_iff, List.any_eq_true]
  rfl

theorem disband_frame (s : State) (group : Nat) (g : Group) :
    onlyChanges [.journal, .tools, .groups] s (s.disband group g) := by
  unfold disband
  refine onlyChanges_trans (onlyChanges_trans (t := s.commit (s.oldGroup group :: g.chain.map s.oldTool))
    (fun x hx => ?_) (onlyChanges_mono (setGroupField_frame _ 0 g.chain) (by decide))) fun x hx => ?_ <;>
  cases x <;> first | rfl | simp at hx

end State

/-- Settles O34. -/
theorem deleteGroupFreesItsMembers : Obligations.DeleteGroupFreesItsMembers := by
  intro s group hp hwf
  refine ⟨_, congrArg Host.Outcome.next (State.request_of_powered hp _), ?_⟩
  split
  · next bad => exact refused_of (by simp [State.deleteGroup, isGroupNumber_of_bad bad])
  · next good =>
    have number := isGroupNumber_of_good good
    split
    · next hn => exact refused_of (by simp [State.deleteGroup, number, hn])
    · next g hg =>
      have work := State.deleteGroup_of_defined (s := s.atWork) number hg
      split
      · next busy => exact refused_of (work.trans (if_pos busy))
      · next free =>
        rw [serve_taken (work.trans (if_neg free)) (s.atWork.disband_frame group g .link (by decide))]
        exact ⟨takenOk_of (s.atWork.disband_frame group g), s.atWork.disband_toolGet group g,
          State.disband_groupGet (s := s.atWork) hwf group g⟩

end Sys2Proof.Machine
end

section
/-! A selection's writes: the reservation, the wait and the exhausted group, each with what it writes and what it leaves
(R127, R128, R129). -/

namespace Sys2Proof.Machine

namespace State

variable {s : State}

/-! ### Tags -/

/-- The tag of a tool is read from its record alone. -/
theorem tagOf_of_tags {t : State} {n : Nat} (h : (t.tool? n).map Tool.tag = (s.tool? n).map Tool.tag) :
    t.tagOf n = s.tagOf n := by
  unfold tagOf
  cases ht : t.tool? n <;> cases hs : s.tool? n <;> simp_all

/-! ### The reservation -/

theorem giveSister_frame (s : State) (p : Fin 12) (gno : Nat) (g : Group) (i : Nat) :
    onlyChanges [.tools, .groups, .positions, .notices, .journal] s (s.giveSister p gno g i) :=
  onlyChanges_of (.inr (Worked.giveSister ..).powered) (.inr (Worked.giveSister ..).clock) (by simp) (by simp)
    (.inr (Worked.giveSister ..).configs) (by simp) (by simp) (by simp) (by simp) (by simp) (by simp) (by simp) (by simp)
    (.inr (Worked.giveSister ..).pending)

/-- A reservation leaves every tag. -/
theorem giveSister_tagOf (s : State) (p : Fin 12) (gno : Nat) (g : Group) (i n : Nat) :
    (s.giveSister p gno g i).tagOf n = s.tagOf n := by
  refine tagOf_of_tags ?_
  rw [giveSister_toolGet]
  split
  · simp [Function.comp_def]
  · rfl

/-- The SWAP_ORDER notice of a service: the outgoing tool of the position and its sister (R153, R154). -/
def swapOrder (s : State) (p : Fin 12) (n : Nat) : Notice :=
  ⟨.swapOrder, some (stationOf p), some (seatKind p), (s.position p).active, s.tagOf (s.position p).active, n, s.tagOf n,
    s.clock⟩

theorem giveSister_notices (s : State) (p : Fin 12) (gno : Nat) (g : Group) (i : Nat) :
    (s.giveSister p gno g i).notices = s.notices.push true (s.swapOrder p (g.memberAt i)) := by
  unfold swapOrder
  rw [← giveSister_tagOf s p gno g i, ← giveSister_tagOf s p gno g i (g.memberAt i)]
  unfold giveSister
  simp only [notify, withNotices_notices, setPosition_notices, setGroup_notices, modifyTool_notices, commit_eq,
    withJournal_notices, setPosition_clock, setGroup_clock, modifyTool_clock, withJournal_clock, setGroup_position,
    modifyTool_position, withJournal_position]
  rfl

/-! ### The wait -/

theorem waitFor_frame (s : State) (p : Fin 12) (a : Nat) : onlyChanges [.positions, .notices] s (s.waitFor p a) :=
  fun x hx => by cases x <;> first | rfl | simp at hx

theorem waitFor_positions (s : State) (p : Fin 12) (a : Nat) :
    (s.waitFor p a).positions = s.positions.set p ⟨.waiting, (s.position p).active, 0, 0⟩ := rfl

theorem waitFor_notices (s : State) (p : Fin 12) (a : Nat) : (s.waitFor p a).notices = s.notices.push true
    ⟨.noSister, some (stationOf p), some (seatKind p), (s.position p).active, s.tagOf (s.position p).active, a, 0,
      s.clock⟩ := by
  have stays : ((s.rest p .waiting).position p).active = (s.position p).active := by simp [rest]
  unfold waitFor notify
  dsimp only
  rw [stays]
  rfl

/-- A tool whose group field names no defined group is waited for as an ungrouped one (R128). -/
theorem selection_waits {p : Fin 12} {x : Tool} (hx : s.tool? (s.position p).active = some x)
    (hg : x.group = 0 ∨ s.group? x.group = none) : s.selection p = s.waitFor p 0 := by
  have group : s.groupOf x = none := by
    unfold groupOf
    rcases hg with h0 | hg
    · exact if_pos h0
    · rw [hg, ite_self]
  unfold selection
  dsimp only
  rw [hx]
  dsimp only
  rw [group]

/-! ### The exhausted group -/

theorem modifyGroup_frame (s : State) (n : Nat) (f : Group → Group) : onlyChanges [.groups] s (s.modifyGroup n f) :=
  onlyChanges_of (by simp) (by simp) (by simp) (by simp) (by simp) (by simp) (by simp) (by simp) (by simp) (by simp)
    (by simp) (by simp) (by simp) (by simp)

/-- The tool of a position that runs on is OVERRUN, committed where it was not (R129). -/
def overrunTool (s : State) (n : Nat) (x : Tool) : State :=
  if x.condition = .overrun then s
  else (s.commit [s.oldTool n]).modifyTool n fun t => { t with condition := .overrun }

theorem overrunTool_frame (s : State) (n : Nat) (x : Tool) : onlyChanges [.tools, .journal] s (s.overrunTool n x) := by
  unfold overrunTool
  split
  · exact s.onlyChanges_refl _
  · refine onlyChanges_trans (t := s.commit [s.oldTool n]) (fun y hy => ?_)
      (onlyChanges_mono (modifyTool_frame _ n _) (by decide))
    cases y <;> first | rfl | simp at hy

theorem overrunTool_becomes {n : Nat} {x : Tool} (hx : s.tool? n = some x) :
    toolBecomes n (some { x with condition := .overrun }) s (s.overrunTool n x) := by
  intro m
  unfold overrunTool
  split
  · next same =>
    split
    · next hm => rw [hm, hx, ← same]
    · rfl
  · rw [modifyTool_toolGet, commit_eq, withJournal_toolGet, withJournal_toolGet, hx]
    rfl

/-- A position runs on with its tool OVERRUN and a routine RUN_ON notice (R129). -/
def runOnAt (s : State) (p : Fin 12) (n : Nat) (x : Tool) (ceiling : Nat) : State :=
  ((s.overrunTool n x).rest p .runOn).notify false .runOn (some (stationOf p)) (some (seatKind p)) n ceiling 0

theorem runOnAt_frame (s : State) (p : Fin 12) (n : Nat) (x : Tool) (ceiling : Nat) :
    onlyChanges [.tools, .journal, .positions, .notices] s (s.runOnAt p n x ceiling) :=
  onlyChanges_trans (onlyChanges_mono (s.overrunTool_frame n x) (by decide)) fun y hy => by
    cases y <;> first | rfl | simp at hy

theorem runOnAt_oneBecomes (s : State) (p : Fin 12) (n : Nat) (x : Tool) (ceiling : Nat) :
    oneBecomes p ⟨.runOn, (s.position p).active, 0, 0⟩ s.positions (s.runOnAt p n x ceiling).positions := by
  have stand : (s.overrunTool n x).positions = s.positions := s.overrunTool_frame n x .positions (by decide)
  have seat : (s.overrunTool n x).position p = s.position p := congrArg (·[p]) stand
  rw [← stand, ← seat]
  exact oneBecomes_set _ _ _

theorem runOnAt_notices {n : Nat} {x : Tool} (hx : s.tool? n = some x) (p : Fin 12) (ceiling : Nat) :
    (s.runOnAt p n x ceiling).notices = s.notices.push false
      ⟨.runOn, some (stationOf p), some (seatKind p), n, s.tagOf n, ceiling, 0, s.clock⟩ := by
  have tag : (s.overrunTool n x).tagOf n = s.tagOf n := tagOf_of_tags (by rw [overrunTool_becomes hx, if_pos rfl, hx]; rfl)
  have queues : (s.overrunTool n x).notices = s.notices := s.overrunTool_frame n x .notices (by decide)
  have clock : (s.overrunTool n x).clock = s.clock := s.overrunTool_frame n x .clock (by decide)
  rw [← tag, ← queues, ← clock]
  rfl

/-- A selection in an exhausted group puts the position in the list, and runs on where R129 lets it, else waits. -/
theorem exhausted_eq_ite (s : State) (p : Fin 12) (n : Nat) (x : Tool) (g : Group) : s.exhausted p n x g =
    if (x.condition = .spent ∨ x.condition = .overrun) ∧ g.action = .runOn ∧
        x.used < x.overrunCeiling g.overrunPercent then
      (s.modifyGroup x.group fun g => g.join p).runOnAt p n x (x.overrunCeiling g.overrunPercent)
    else (s.modifyGroup x.group fun g => g.join p).waitFor p x.group := rfl

/-- The list that the position joins (R129, R130). -/
theorem joined_groupGet {gno : Nat} {g : Group} (hg : s.group? gno = some g) (p : Fin 12) (k : Nat) :
    (s.modifyGroup gno fun g => g.join p).group? k =
      if k = gno then some { g with waiting := if p ∈ g.waiting then g.waiting else g.waiting ++ [p] }
      else s.group? k := by
  have join : g.join p = { g with waiting := if p ∈ g.waiting then g.waiting else g.waiting ++ [p] } := by
    unfold Group.join
    split <;> rfl
  rw [modifyGroup_groupGet, hg, Option.map_some, join]

end State

/-- After a reservation the position is ORDERED with its timer loaded, and no other position differs (R141). -/
theorem State.giveSister_oneBecomes (s : State) (p : Fin 12) (gno : Nat) (g : Group) (i : Nat) :
    oneBecomes p ⟨.ordered, (s.position p).active, g.memberAt i, 1000 * (s.config (stationOf p)).swapTimeout⟩ s.positions
      (s.giveSister p gno g i).positions := fun q => by
  rw [Nat.mul_comm]
  exact s.giveSister_position p gno g i q

/-- Settles O36: the selection's three ends, the wait, the reservation and the exhausted group, are each read off. -/
theorem selectionFollowsItsTables : Obligations.SelectionFollowsItsTables := by
  rintro s _ p _ x rfl rfl hx
  refine ⟨fun ungrouped => ?_, fun g h0 hg => ⟨fun i m y hscan hm hy => ?_, fun hscan => ?_⟩⟩
  · rw [State.selection_waits hx ungrouped]
    exact ⟨s.waitFor_frame p 0, oneBecomes_set _ _ _, s.waitFor_notices p 0⟩
  · rw [State.selection_chooses hx h0 hg hscan]
    have position := s.giveSister_oneBecomes p x.group g i
    have notices := s.giveSister_notices p x.group g i
    have tools := s.giveSister_toolGet p x.group g i
    rw [Group.memberAt_of_get hm] at position notices tools
    refine ⟨s.giveSister_frame _ _ _ _, fun k => ?_, s.giveSister_groupGet p x.group g i, position, notices⟩
    rw [tools]
    split
    · next hk => rw [hk, hy]; rfl
    · rfl
  · rw [State.selection_exhausts hx h0 hg hscan, State.exhausted_eq_ite]
    generalize hu : (s.modifyGroup x.group fun g => g.join p) = u
    have joined : onlyChanges [.groups] s u := hu ▸ s.modifyGroup_frame _ _
    have lists := State.joined_groupGet hg p
    rw [hu] at lists
    have tools (k : Nat) : u.tool? k = s.tool? k := congrArg (tableGet · k) (joined .tools (by decide))
    have positions : u.positions = s.positions := joined .positions (by decide)
    have seat : u.position p = s.position p := congrArg (·[p]) positions
    have queues : u.notices = s.notices := joined .notices (by decide)
    have clock : u.clock = s.clock := joined .clock (by decide)
    have tag : u.tagOf (s.position p).active = s.tagOf (s.position p).active := State.tagOf_of_tags (by rw [tools])
    have held : u.tool? (s.position p).active = some x := (tools _).trans hx
    rw [← seat] at tag held ⊢
    rw [← positions, ← queues, ← clock, ← tag]
    have frame {v : State} (h : onlyChanges [.tools, .journal, .positions, .notices] u v) :
        onlyChanges [.tools, .groups, .positions, .notices, .journal] s v :=
      onlyChanges_trans (onlyChanges_mono joined (by decide)) (onlyChanges_mono h (by decide))
    split
    · have ran := u.runOnAt_frame p (u.position p).active x (x.overrunCeiling g.overrunPercent)
      refine ⟨frame ran, fun k => ?_, fun k => ?_, u.runOnAt_oneBecomes _ _ _ _, State.runOnAt_notices held ..⟩
      · rw [← lists]; exact congrArg (tableGet · k) (ran .groups (by decide))
      · rw [← tools]; exact State.overrunTool_becomes held k
    · exact ⟨frame (onlyChanges_mono (u.waitFor_frame _ _) (by decide)), lists, joined .tools (by decide), oneBecomes_set _ _ _,
        u.waitFor_notices ..⟩

end Sys2Proof.Machine
end

section
/-! An eligibility event as a run of services of one waiting list, oldest first (R131). -/

namespace Sys2Proof.Machine

/-! ### What services may change -/

theorem optionServedTo_refl {α : Type} {served : α → α → Prop} (h : ∀ x, served x x) (a : Option α) :
    optionServedTo served a a := by
  cases a with
  | none => trivial
  | some x => exact h x

theorem Tool.servedTo_refl (x : Tool) : x.servedTo x := .inl rfl

theorem Group.servedTo_refl (g : Group) : g.servedTo g := ⟨rfl, .refl _⟩

theorem servedTo_refl (s : State) : servedTo s s :=
  ⟨s.onlyChanges_refl _, fun _ => optionServedTo_refl Tool.servedTo_refl _, fun _ => optionServedTo_refl Group.servedTo_refl _,
    fun _ => .inl rfl, rfl, rfl⟩

theorem optionServedTo_trans {α : Type} {served : α → α → Prop} (h : ∀ x y z, served x y → served y z → served x z)
    {a b c : Option α} (hab : optionServedTo served a b) (hbc : optionServedTo served b c) : optionServedTo served a c := by
  cases a <;> cases b <;> cases c <;> simp only [optionServedTo] at *
  exact h _ _ _ hab hbc

theorem Tool.servedTo_trans {x y z : Tool} (h : x.servedTo y) (k : y.servedTo z) : x.servedTo z := by
  rcases k with rfl | ⟨store, p, rfl⟩
  · exact h
  · rcases h with rfl | ⟨_, q, rfl⟩
    · exact .inr ⟨store, p, rfl⟩
    · cases store

theorem Group.servedTo_trans {g h k : Group} (hg : g.servedTo h) (hk : h.servedTo k) : g.servedTo k := by
  obtain ⟨record, list⟩ := hg
  obtain ⟨record', list'⟩ := hk
  exact ⟨by rw [record', record], list'.trans list⟩

theorem Position.servedTo_trans {x y z : Position} (h : x.servedTo y) (k : y.servedTo z) : x.servedTo z := by
  rcases k with rfl | ⟨waiting, ordered, active⟩
  · exact h
  · rcases h with rfl | ⟨_, ordered', _⟩
    · exact .inr ⟨waiting, ordered, active⟩
    · rw [ordered'] at waiting; cases waiting

theorem servedTo_trans {s t u : State} (h : servedTo s t) (k : servedTo t u) : servedTo s u := by
  obtain ⟨frame, tools, groups, positions, routine, lost⟩ := h
  obtain ⟨frame', tools', groups', positions', routine', lost'⟩ := k
  exact ⟨onlyChanges_trans frame frame', fun n => optionServedTo_trans (served := Tool.servedTo) (fun _ _ _ => Tool.servedTo_trans) (tools n) (tools' n),
    fun n => optionServedTo_trans (served := Group.servedTo) (fun _ _ _ => Group.servedTo_trans) (groups n) (groups' n),
    fun p => Position.servedTo_trans (positions p) (positions' p), routine'.trans routine, lost'.trans lost⟩

/-- A position that is not WAITING is served no more. -/
theorem servedTo.position_eq {s t : State} (h : servedTo s t) {p : Fin 12} (hp : (s.position p).state ≠ .waiting) :
    t.position p = s.position p := by
  obtain ⟨_, _, _, positions, _⟩ := h
  exact (positions p).resolve_right fun served => hp served.1

theorem servedTo.active {s t : State} (h : servedTo s t) (p : Fin 12) : (t.position p).active = (s.position p).active := by
  obtain ⟨_, _, _, positions, _⟩ := h
  rcases positions p with same | ⟨_, _, active⟩
  · rw [same]
  · exact active

/-- A RESERVED tool is chosen no more. -/
theorem servedTo.reserved {s t : State} (h : servedTo s t) {n : Nat} {p : Fin 12}
    (hn : (s.tool? n).map Tool.placement = some (.reserved p)) : (t.tool? n).map Tool.placement = some (.reserved p) := by
  obtain ⟨_, tools, _⟩ := h
  have tool := tools n
  obtain ⟨x, hx, place⟩ := Option.map_eq_some_iff.1 hn
  rw [hx] at tool
  cases ht : t.tool? n with
  | none => rw [ht] at tool; exact tool.elim
  | some y =>
    rw [ht] at tool
    rcases tool with rfl | ⟨store, _⟩
    · rw [Option.map_some, place]
    · rw [place] at store; cases store

/-- Services leave a tool's tag. -/
theorem servedTo.tagOf {s t : State} (h : servedTo s t) (n : Nat) : t.tagOf n = s.tagOf n := by
  obtain ⟨_, tools, _⟩ := h
  have tool := tools n
  refine State.tagOf_of_tags ?_
  cases hs : s.tool? n with
  | none => cases ht : t.tool? n with
    | none => rfl
    | some y => rw [hs, ht] at tool; exact tool.elim
  | some x => cases ht : t.tool? n with
    | none => rw [hs, ht] at tool; exact tool.elim
    | some y =>
      rw [hs, ht] at tool
      rcases tool with rfl | ⟨_, _, rfl⟩ <;> rfl

/-- Services write the same SWAP_ORDER notices before and after one another. -/
theorem servedTo.swapOrder {s t : State} (h : servedTo s t) (p : Fin 12) (n : Nat) : t.swapOrder p n = s.swapOrder p n := by
  have clock : t.clock = s.clock := h.1 .clock (by decide)
  unfold State.swapOrder
  rw [h.active, h.tagOf, h.tagOf, clock]

theorem NoticeQueues.push_urgent_routine (q : NoticeQueues) (n : Notice) : (q.push true n).routine = q.routine := by
  unfold push
  rw [if_pos rfl]
  split <;> rfl

theorem NoticeQueues.push_urgent_routineLost (q : NoticeQueues) (n : Notice) :
    (q.push true n).routineLost = q.routineLost := by
  unfold push
  rw [if_pos rfl]
  split <;> rfl

/-! ### One service -/

/-- The list `gno` of a state is served next: its oldest WAITING position is `p`, and the scan chooses the member `n` at
index `i` for it (R131). -/
structure State.ServesNext (s : State) (gno : Nat) (g : Group) (p : Fin 12) (i n : Nat) : Prop where
  group : s.group? gno = some g
  oldest : s.oldestWaiting g = some p
  scan : s.scan g = some i
  member : g.chain[i]? = some n

namespace State.ServesNext

variable {s : State} {gno : Nat} {g : Group} {p : Fin 12} {i n : Nat}

/-- Where a position waits and the scan chooses, the list is served. -/
theorem of_oldest (hg : s.group? gno = some g) (hp : s.oldestWaiting g = some p) (hi : s.scan g = some i) :
    ∃ n, s.ServesNext gno g p i n := by
  obtain ⟨n, _, hn, _⟩ := State.eligibleAt_iff.1 (State.scan_some hi).1
  exact ⟨n, hg, hp, hi, hn⟩

variable (h : s.ServesNext gno g p i n)
include h

theorem memberAt : g.memberAt i = n := Group.memberAt_of_get h.member

theorem waiting : (s.position p).state = .waiting := by simpa using List.find?_some h.oldest

theorem mem_waiting : p ∈ g.waiting := List.mem_of_find?_eq_some h.oldest

theorem mem_chain : n ∈ g.chain := List.mem_of_getElem? h.member

theorem stored : ∃ x, s.tool? n = some x ∧ x.placement = .store := by
  obtain ⟨m, x, hm, hx, eligible⟩ := State.eligibleAt_iff.1 (State.scan_some h.scan).1
  obtain rfl := Option.some.inj (hm.symm.trans h.member)
  exact ⟨x, hx, ((Tool.eligible_iff ..).1 eligible).1⟩

/-- The position after its service (R141). -/
theorem position : (s.giveSister p gno g i).position p =
    ⟨.ordered, (s.position p).active, n, 1000 * (s.config (stationOf p)).swapTimeout⟩ := by
  rw [State.giveSister_position, if_pos rfl, h.memberAt, Nat.mul_comm]

theorem reserved : ((s.giveSister p gno g i).tool? n).map Tool.placement = some (.reserved p) := by
  obtain ⟨x, hx, _⟩ := h.stored
  rw [State.giveSister_toolGet, if_pos h.memberAt.symm, hx]
  rfl

/-- One service reserves a stored member for a WAITING position, and the position leaves the list (R131). -/
theorem servedTo : servedTo s (s.giveSister p gno g i) := by
  have notices := s.giveSister_notices p gno g i
  refine ⟨s.giveSister_frame _ _ _ _, fun m => ?_, fun m => ?_, fun q => ?_, ?_, ?_⟩
  · rw [State.giveSister_toolGet, h.memberAt]
    split
    · next hm =>
      obtain ⟨x, hx, store⟩ := h.stored
      rw [hm, hx]
      exact .inr ⟨store, p, rfl⟩
    · exact optionServedTo_refl Tool.servedTo_refl _
  · rw [State.giveSister_groupGet]
    split
    · next hm =>
      rw [hm, h.group]
      exact ⟨rfl, List.filter_sublist⟩
    · exact optionServedTo_refl Group.servedTo_refl _
  · rw [State.giveSister_position]
    split
    · next hq =>
      rw [hq]
      exact .inr ⟨h.waiting, rfl, rfl⟩
    · exact .inl rfl
  · rw [notices]
    exact NoticeQueues.push_urgent_routine ..
  · rw [notices]
    exact NoticeQueues.push_urgent_routineLost ..

end State.ServesNext

/-! ### A run of services -/

/-- Services of the list of group `gno`, one after the other, each with its position and its member. -/
inductive Serves (gno : Nat) : State → List (Fin 12 × Nat) → State → Prop
  | done (s : State) : Serves gno s [] s
  | next {s t : State} {g : Group} {p : Fin 12} {i n : Nat} {rest : List (Fin 12 × Nat)} (first : s.ServesNext gno g p i n)
      (others : Serves gno (s.giveSister p gno g i) rest t) : Serves gno s ((p, n) :: rest) t

/-- No service of the group's list is due: no position waits, or the group is exhausted (R131). -/
def State.listDone (s : State) (g : Group) : Prop := s.scan g = none ∨ ∀ p ∈ g.waiting, (s.position p).state ≠ .waiting

theorem State.oldestWaiting_none {s : State} {g : Group} :
    s.oldestWaiting g = none ↔ ∀ p ∈ g.waiting, (s.position p).state ≠ .waiting := by
  unfold oldestWaiting
  rw [List.find?_eq_none]
  simp

/-- A service of the list is the first turn of its loop. -/
theorem State.ServesNext.loop {s : State} {gno : Nat} {g : Group} {p : Fin 12} {i n : Nat} (h : s.ServesNext gno g p i n)
    (fuel : Nat) : s.serviceLoop gno (fuel + 1) = (s.giveSister p gno g i).serviceLoop gno fuel := by
  rw [serviceLoop, h.group]
  dsimp only
  rw [h.oldest]
  dsimp only
  rw [h.scan]

/-- A group's list is done, or it is served next. -/
theorem State.listDone_or_serves {s : State} {gno : Nat} {g : Group} (hg : s.group? gno = some g) :
    s.listDone g ∨ ∃ p i n, s.ServesNext gno g p i n := by
  cases hp : s.oldestWaiting g with
  | none => exact .inl (.inr (oldestWaiting_none.1 hp))
  | some p =>
    cases hi : s.scan g with
    | none => exact .inl (.inl hi)
    | some i =>
      obtain ⟨n, h⟩ := ServesNext.of_oldest hg hp hi
      exact .inr ⟨p, i, n, h⟩

theorem State.ServesNext.not_listDone {s : State} {gno : Nat} {g : Group} {p : Fin 12} {i n : Nat}
    (h : s.ServesNext gno g p i n) : ¬ s.listDone g := by
  rintro (exhausted | none)
  · rw [h.scan] at exhausted; cases exhausted
  · exact none p h.mem_waiting h.waiting

/-- A loop over a list that is done does nothing. -/
theorem State.serviceLoop_of_listDone {s : State} {gno : Nat} {g : Group} (hg : s.group? gno = some g) (h : s.listDone g)
    (fuel : Nat) : s.serviceLoop gno fuel = s := by
  cases fuel with
  | zero => rfl
  | succ fuel =>
    rw [serviceLoop, hg]
    dsimp only
    split
    · rfl
    · next p hp =>
      have exhausted : s.scan g = none :=
        h.resolve_right fun none => by rw [oldestWaiting_none.2 none] at hp; cases hp
      rw [exhausted]

/-- A service shortens the list. -/
theorem State.ServesNext.length_lt {s : State} {gno : Nat} {g : Group} {p : Fin 12} {i n : Nat}
    (h : s.ServesNext gno g p i n) : (g.chosen i p).waiting.length < g.waiting.length :=
  List.length_filter_lt_length_iff_exists.2 ⟨p, h.mem_waiting, by simp⟩

/-- With as many turns as positions in the list, the loop is a run of services after which the list is done (R131). -/
theorem State.serviceLoop_serves {s : State} {gno fuel : Nat} {g : Group} (hg : s.group? gno = some g)
    (hf : g.waiting.length ≤ fuel) : ∃ services, Serves gno s services (s.serviceLoop gno fuel) ∧
      ∀ g', (s.serviceLoop gno fuel).group? gno = some g' → (s.serviceLoop gno fuel).listDone g' := by
  induction fuel generalizing s g with
  | zero =>
    refine ⟨[], .done s, fun g' hg' => .inr fun p hp => ?_⟩
    obtain rfl := Option.some.inj (hg.symm.trans hg')
    rw [List.length_eq_zero_iff.1 (Nat.le_zero.1 hf)] at hp
    cases hp
  | succ fuel ih =>
    rcases listDone_or_serves hg with done | ⟨p, i, n, first⟩
    · rw [serviceLoop_of_listDone hg done]
      refine ⟨[], .done s, fun g' hg' => ?_⟩
      obtain rfl := Option.some.inj (hg.symm.trans hg')
      exact done
    · rw [first.loop]
      obtain ⟨rest, others, done⟩ := ih (s.giveSister_groupGet p gno g i gno |>.trans (if_pos rfl))
        (by have := first.length_lt; omega)
      exact ⟨_, .next first others, done⟩

/-- The position served is the first of the WAITING ones of the list. -/
theorem State.ServesNext.waiting_eq_cons {s : State} {gno : Nat} {g : Group} {p : Fin 12} {i n : Nat}
    (h : s.ServesNext gno g p i n) :
    ∃ after, (g.waiting.filter fun q => decide ((s.position q).state = .waiting)) = p :: after := by
  obtain ⟨waits, before, after, hw, hb⟩ := List.find?_eq_some_iff_append.1 h.oldest
  refine ⟨after.filter fun q => decide ((s.position q).state = .waiting), ?_⟩
  rw [hw, List.filter_append, List.filter_eq_nil_iff.2 (by simpa using hb), List.nil_append]
  exact List.filter_cons_of_pos waits

/-- After a service the WAITING positions of the list are those before it but the one served. -/
theorem State.giveSister_waiting_filter (s : State) (p : Fin 12) (gno : Nat) (g : Group) (i : Nat) :
    ((g.chosen i p).waiting.filter fun q => decide (((s.giveSister p gno g i).position q).state = .waiting)) =
      (g.waiting.filter fun q => decide ((s.position q).state = .waiting)).filter fun q => decide (q ≠ p) := by
  simp only [Group.chosen, Group.leave, List.filter_filter]
  refine List.filter_congr fun q _ => ?_
  rw [giveSister_position]
  by_cases hq : q = p <;> simp [hq]

/-! ### What a run of services leaves -/

namespace Serves

variable {gno : Nat} {s t : State} {services : List (Fin 12 × Nat)} (h : Serves gno s services t)
include h

theorem servedTo : servedTo s t := by
  induction h with
  | done s => exact servedTo_refl s
  | next first _ ih => exact servedTo_trans first.servedTo ih

/-- A run over a list that is done does nothing. -/
theorem eq_of_listDone {g : Group} (hg : s.group? gno = some g) (hd : s.listDone g) : t = s := by
  cases h with
  | done => rfl
  | next first _ =>
    obtain rfl := Option.some.inj (hg.symm.trans first.group)
    exact absurd hd first.not_listDone

/-- A position that is served is ORDERED for its sister to the end of the run. -/
theorem position_of_mem {p : Fin 12} {n : Nat} (hm : (p, n) ∈ services) : t.position p =
    ⟨.ordered, (s.position p).active, n, 1000 * (s.config (stationOf p)).swapTimeout⟩ := by
  induction h with
  | done => cases hm
  | @next s t g q i m rest first others ih =>
    rcases List.mem_cons.1 hm with same | later
    · obtain ⟨rfl, rfl⟩ := Prod.mk.inj same
      rw [others.servedTo.position_eq (by rw [first.position]; simp), first.position]
    · have config : (s.giveSister q gno g i).config (stationOf p) = s.config (stationOf p) :=
        congrArg (·[stationOf p]) (first.servedTo.1 .configs (by decide))
      rw [ih later, first.servedTo.active, config]

/-- The member of a service is RESERVED to the end of the run. -/
theorem reserved_of_mem {p : Fin 12} {n : Nat} (hm : (p, n) ∈ services) :
    (t.tool? n).map Tool.placement = some (.reserved p) := by
  induction h with
  | done => cases hm
  | next first others ih =>
    rcases List.mem_cons.1 hm with same | later
    · obtain ⟨rfl, rfl⟩ := Prod.mk.inj same
      exact others.servedTo.reserved first.reserved
    · exact ih later

theorem mem_chain {g : Group} (hg : s.group? gno = some g) {p : Fin 12} {n : Nat} (hm : (p, n) ∈ services) : n ∈ g.chain := by
  induction h generalizing g with
  | done => cases hm
  | @next s t g' q i m rest first others ih =>
    obtain rfl := Option.some.inj (hg.symm.trans first.group)
    rcases List.mem_cons.1 hm with same | later
    · obtain ⟨rfl, rfl⟩ := Prod.mk.inj same
      exact first.mem_chain
    · exact ih (g := g.chosen i q) ((s.giveSister_groupGet q gno g i gno).trans (if_pos rfl)) later

theorem position_of_unserved {p : Fin 12} (hp : p ∉ services.map Prod.fst) : t.position p = s.position p := by
  induction h with
  | done => rfl
  | next first others ih =>
    rw [List.map_cons, List.mem_cons, not_or] at hp
    rw [ih hp.2, State.giveSister_position, if_neg hp.1]

/-- The positions are served in the order of the list (R131). -/
theorem sublist {g : Group} (hg : s.group? gno = some g) :
    (services.map Prod.fst).Sublist (g.waiting.filter fun p => decide ((s.position p).state = .waiting)) := by
  induction h generalizing g with
  | done => exact List.nil_sublist _
  | @next s t g' p i n rest first others ih =>
    obtain rfl := Option.some.inj (hg.symm.trans first.group)
    have later := ih (g := g.chosen i p) ((s.giveSister_groupGet p gno g i gno).trans (if_pos rfl))
    rw [s.giveSister_waiting_filter] at later
    obtain ⟨after, hw⟩ := first.waiting_eq_cons
    rw [hw] at later ⊢
    rw [List.filter_cons_of_neg (by simp)] at later
    exact (later.trans List.filter_sublist).cons_cons p

/-- The notices of a run are its services' SWAP_ORDER notices, in their order. -/
theorem notices : t.notices = services.foldl (fun q e => q.push true (s.swapOrder e.1 e.2)) s.notices := by
  induction h with
  | done => rfl
  | @next s t g p i n rest first others ih =>
    have same : (fun (q : NoticeQueues) (e : Fin 12 × Nat) => q.push true ((s.giveSister p gno g i).swapOrder e.1 e.2)) =
        fun q e => q.push true (s.swapOrder e.1 e.2) := funext₂ fun q e => by rw [first.servedTo.swapOrder]
    rw [ih, same, State.giveSister_notices, first.memberAt]
    rfl

end Serves

/-- An eligibility event of a defined group is a run of services after which the list is done (R131). -/
theorem State.eligibilityEvent_serves {s : State} {gno : Nat} {g : Group} (hg : s.group? gno = some g) :
    ∃ services, Serves gno s services (s.eligibilityEvent gno) ∧
      ∀ g', (s.eligibilityEvent gno).group? gno = some g' → (s.eligibilityEvent gno).listDone g' := by
  have loop : s.eligibilityEvent gno = s.serviceLoop gno g.waiting.length := by
    unfold eligibilityEvent
    rw [hg]
  rw [loop]
  exact serviceLoop_serves hg le_rfl

/-- The oldest WAITING position is served first, whatever follows (R131). -/
theorem Serves.first {s t : State} {gno : Nat} {services : List (Fin 12 × Nat)} (h : Serves gno s services t)
    (hd : ∀ g', t.group? gno = some g' → t.listDone g') {g : Group} {p : Fin 12} {i n : Nat}
    (next : s.ServesNext gno g p i n) : (p, n) ∈ services := by
  cases h with
  | done => exact absurd (hd g next.group) next.not_listDone
  | @next _ _ g' q j m rest first _ =>
    obtain rfl := Option.some.inj (next.group.symm.trans first.group)
    obtain rfl := Option.some.inj (next.oldest.symm.trans first.oldest)
    obtain rfl := Option.some.inj (next.scan.symm.trans first.scan)
    obtain rfl := Option.some.inj (next.member.symm.trans first.member)
    exact List.mem_cons_self

/-- Settles O37: the event is a run of services, and each clause is what such a run leaves. -/
theorem eligibilityEventServesTheList : Obligations.EligibilityEventServesTheList := by
  rintro s _ gno rfl
  have undefined (hg : s.group? gno = none) : s.eligibilityEvent gno = s := by
    unfold State.eligibilityEvent
    rw [hg]
  refine ⟨?_, undefined, fun g hg => ?_⟩
  · cases hg : s.group? gno with
    | none => rw [undefined hg]; exact servedTo_refl s
    | some g => obtain ⟨_, run, _⟩ := State.eligibilityEvent_serves hg; exact run.servedTo
  · obtain ⟨services, run, done⟩ := State.eligibilityEvent_serves hg
    refine ⟨run.eq_of_listDone hg, done, fun before after p i n hw hb hp hi hn => ?_, services, run.sublist hg,
      fun e he => ⟨run.mem_chain hg he, run.position_of_mem he, run.reserved_of_mem he⟩,
      fun p hp => run.position_of_unserved hp, run.notices⟩
    have oldest : s.oldestWaiting g = some p :=
      List.find?_eq_some_iff_append.2 ⟨by simpa using hp, before, after, hw, by simpa using hb⟩
    have served := run.first done ⟨hg, oldest, hi, hn⟩
    exact ⟨run.position_of_mem served, run.reserved_of_mem served⟩

end Sys2Proof.Machine
end

section
/-! READ_GROUP: the 112 bytes of Table 10-10 as runs of fields, the chain, the list and the members slot by slot (R124,
R179). -/

namespace Sys2Proof.Machine

/-! ### Runs of slots of one width -/

/-- The bytes of a list's elements, brought to `n` elements with a fill byte, are those of `n` slots. -/
theorem padTo_flatMap {α : Type} (f : α → List Byte) (fill : Byte) (k : Nat) (hf : ∀ a, (f a).length = k) {n : Nat}
    {l : List α} (h : l.length ≤ n) : padTo (k * n) fill (l.flatMap f) =
      (List.range n).flatMap fun i => (l[i]?).elim (List.replicate k fill) f := by
  induction n generalizing l with
  | zero =>
    rw [List.length_eq_zero_iff.1 (Nat.le_zero.1 h)]
    rfl
  | succ n ih =>
    rw [List.range_succ_eq_map, List.flatMap_cons, List.flatMap_map]
    cases l with
    | nil =>
      have rest := ih (l := []) (Nat.zero_le n)
      simp only [padTo, List.flatMap_nil, List.length_nil, Nat.sub_zero, List.nil_append, List.getElem?_nil] at rest ⊢
      rw [← rest, Nat.mul_succ, Nat.add_comm, List.replicate_add]
      rfl
    | cons a l =>
      have rest := ih (l := l) (Nat.le_of_succ_le_succ h)
      have fits : k * (n + 1) - (f a ++ l.flatMap f).length = k * n - (l.flatMap f).length := by
        rw [List.length_append, hf, Nat.mul_succ]; omega
      rw [padTo, List.flatMap_cons, fits, List.append_assoc]
      exact congrArg (f a ++ ·) rest

theorem layout_flatMap (slot : Nat → List (Nat × Nat)) (l : List Nat) :
    layout (l.flatMap slot) = l.flatMap fun i => layout (slot i) := by
  induction l with
  | nil => rfl
  | cons i l ih => rw [List.flatMap_cons, layout_append, ih, List.flatMap_cons]

section

variable {slot : Nat → List (Nat × Nat)} {width : Nat} (hw : ∀ i, ((slot i).map Prod.fst).sum = width)
include hw

theorem width_slots (n : Nat) : (((List.range n).flatMap slot).map Prod.fst).sum = width * n := by
  induction n with
  | zero => rfl
  | succ n ih =>
    rw [List.range_succ, List.flatMap_append, List.map_append, List.sum_append, ih, List.flatMap_singleton, hw, Nat.mul_succ]

/-- Each slot of a run stands at its multiple of the width. -/
theorem offsets_slots {n i : Nat} (hi : i < n) (start : Nat) :
    offsets (start + width * i) (slot i) ⊆ offsets start ((List.range n).flatMap slot) := by
  induction n with
  | zero => exact absurd hi (Nat.not_lt_zero i)
  | succ n ih =>
    rw [List.range_succ, List.flatMap_append, offsets_append, width_slots hw, List.flatMap_singleton]
    rcases Nat.lt_succ_iff_lt_or_eq.1 hi with lower | rfl
    · exact List.subset_append_of_subset_left _ (ih lower)
    · exact List.subset_append_right ..

end

/-! ### The parts of Table 10-10 -/

/-- Bytes 0 to 2 of Table 10-10. -/
def Group.headFields (g : Group) (n : Nat) : List (Nat × Nat) := [(1, n), (1, g.kind.code), (1, g.chain.length)]

/-- A chain slot of Table 10-10. -/
def Group.chainSlot (g : Group) (i : Nat) : List (Nat × Nat) := [(1, g.chain.getD i 0)]

/-- Bytes 11 to 23 of Table 10-10. -/
def Group.settingFields (g : Group) : List (Nat × Nat) :=
  [(1, g.policy.code), (1, g.cursor), (4, g.margin), (1, g.action.code), (1, g.overrunPercent), (1, g.responses.burst.code),
    (1, g.responses.underload.code), (1, g.responses.overload.code), (1, g.responses.contactLoss.code),
    (1, g.waiting.length)]

/-- A slot of the waiting list in Table 10-10. -/
def State.waitingSlot (s : State) (g : Group) (i : Nat) : List (Nat × Nat) :=
  match g.waiting[i]? with
  | some p => [(1, p.val), (1, (s.position p).state.code)]
  | none => [(2, 0xFFFF)]

/-- A member slot of Table 10-10. -/
def State.memberSlot (s : State) (g : Group) (i : Nat) : List (Nat × Nat) :=
  match (g.chain[i]?).bind s.tool? with
  | some x =>
    [(1, x.placement.code), (1, x.placement.positionCode), (1, x.condition.code), (4, x.remainingPasses),
      (1, if x.eligible g.margin then 1 else 0)]
  | none => [(8, 0)]

/-- The fields of Table 10-10. -/
def State.groupFields (s : State) (n : Nat) (g : Group) : List (Nat × Nat) :=
  g.headFields n ++ ((List.range 8).flatMap g.chainSlot ++ (g.settingFields ++
    ((List.range 12).flatMap (s.waitingSlot g) ++ (List.range 8).flatMap (s.memberSlot g))))

namespace State

variable (s : State) (g : Group)

theorem width_waitingSlot (i : Nat) : ((s.waitingSlot g i).map Prod.fst).sum = 2 := by
  unfold waitingSlot
  split <;> rfl

theorem width_memberSlot (i : Nat) : ((s.memberSlot g i).map Prod.fst).sum = 8 := by
  unfold memberSlot
  split <;> rfl

theorem layout_waitingSlot (i : Nat) :
    layout (s.waitingSlot g i) = (g.waiting[i]?).elim (List.replicate 2 0xFF) s.waitingBytes := by
  unfold waitingSlot
  cases g.waiting[i]? with
  | none => rfl
  | some p => rfl

theorem layout_memberSlot (i : Nat) :
    layout (s.memberSlot g i) = (g.chain[i]?).elim (List.replicate 8 0) (s.memberBytes g) := by
  unfold memberSlot
  cases g.chain[i]? with
  | none => rfl
  | some n =>
    simp only [Option.bind_some, Option.elim_some, memberBytes]
    cases s.tool? n with
    | none => rfl
    | some x => rfl

theorem layout_chainSlot (i : Nat) : layout (g.chainSlot i) = (g.chain[i]?).elim (List.replicate 1 0) (be 1) := by
  unfold Group.chainSlot
  rw [List.getD_eq_getElem?_getD]
  cases g.chain[i]? with
  | none => rfl
  | some n => rfl

variable {s g}

/-- The body of READ_GROUP is its fields (R179). -/
theorem groupBytes_eq (n : Nat) (hc : g.chain.length ≤ 8) (hw : g.waiting.length ≤ 12) :
    s.groupBytes n g = layout (s.groupFields n g) := by
  have chain : padTo 8 0 (g.chain.flatMap (be 1)) = layout ((List.range 8).flatMap g.chainSlot) := by
    rw [layout_flatMap]
    simp only [layout_chainSlot]
    exact padTo_flatMap (be 1) 0 1 (fun _ => rfl) hc
  have waiting : padTo 24 0xFF (g.waiting.flatMap s.waitingBytes) = layout ((List.range 12).flatMap (s.waitingSlot g)) := by
    rw [layout_flatMap]
    simp only [layout_waitingSlot]
    exact padTo_flatMap s.waitingBytes 0xFF 2 (fun _ => rfl) hw
  have members : padTo 64 0 (g.chain.flatMap (s.memberBytes g)) = layout ((List.range 8).flatMap (s.memberSlot g)) := by
    rw [layout_flatMap]
    simp only [layout_memberSlot]
    exact padTo_flatMap (s.memberBytes g) 0 8 (fun n => by unfold memberBytes; split <;> rfl) hc
  unfold groupBytes groupFields
  rw [chain, waiting, members]
  simp only [layout_append, List.append_assoc]
  rfl

theorem offsets_groupFields (n : Nat) : offsets 0 (s.groupFields n g) =
    offsets 0 (g.headFields n) ++ (offsets 3 ((List.range 8).flatMap g.chainSlot) ++ (offsets 11 g.settingFields ++
      (offsets 24 ((List.range 12).flatMap (s.waitingSlot g)) ++ offsets 48 ((List.range 8).flatMap (s.memberSlot g))))) := by
  rw [groupFields, offsets_append, offsets_append, offsets_append, offsets_append, width_slots (s.width_waitingSlot g)]
  rfl

variable {n : Nat} (hc : g.chain.length ≤ 8) (hw : g.waiting.length ≤ 12)
include hc hw

theorem length_groupBytes : (s.groupBytes n g).length = 112 := by
  rw [groupBytes_eq n hc hw, length_layout, groupFields]
  simp only [List.map_append, List.sum_append, width_slots (slot := g.chainSlot) (width := 1) fun _ => rfl,
    width_slots (s.width_waitingSlot g), width_slots (s.width_memberSlot g)]
  rfl

/-- The body holds every field of the five parts. -/
theorem groupBytes_holds {fields : List (Nat × Nat × Nat)} (h : ∀ x ∈ fields, x ∈ offsets 0 (g.headFields n) ∨
      x ∈ offsets 3 ((List.range 8).flatMap g.chainSlot) ∨ x ∈ offsets 11 g.settingFields ∨
      x ∈ offsets 24 ((List.range 12).flatMap (s.waitingSlot g)) ∨
      x ∈ offsets 48 ((List.range 8).flatMap (s.memberSlot g))) : bodyHolds (s.groupBytes n g) fields := by
  rw [groupBytes_eq n hc hw]
  refine bodyHolds_layout fun x hx => ?_
  rw [offsets_groupFields]
  simpa only [List.mem_append] using h x hx

theorem groupBytes_settings : bodyHolds (s.groupBytes n g) (offsets 0 (g.headFields n) ++ offsets 11 g.settingFields) :=
  groupBytes_holds hc hw fun _ hx => (List.mem_append.1 hx).imp_right fun h => .inr (.inl h)

theorem groupBytes_chain {i : Nat} (hi : i < 8) : bodyHolds (s.groupBytes n g) (offsets (3 + i) (g.chainSlot i)) :=
  groupBytes_holds hc hw fun _ hx =>
    .inr (.inl (offsets_slots (slot := g.chainSlot) (width := 1) (fun _ => rfl) hi 3 (by rwa [Nat.one_mul])))

theorem groupBytes_waiting {i : Nat} (hi : i < 12) :
    bodyHolds (s.groupBytes n g) (offsets (24 + 2 * i) (s.waitingSlot g i)) :=
  groupBytes_holds hc hw fun _ hx => .inr (.inr (.inr (.inl (offsets_slots (s.width_waitingSlot g) hi 24 hx))))

theorem groupBytes_member {i : Nat} (hi : i < 8) :
    bodyHolds (s.groupBytes n g) (offsets (48 + 8 * i) (s.memberSlot g i)) :=
  groupBytes_holds hc hw fun _ hx => .inr (.inr (.inr (.inr (offsets_slots (s.width_memberSlot g) hi 48 hx))))

end State

/-- A body that holds a field at the head of a list holds its number. -/
theorem bodyHolds.head {body : List Byte} {start count value : Nat} {rest : List (Nat × Nat × Nat)}
    (h : bodyHolds body ((start, count, value) :: rest)) : field body start count = value % 256 ^ count :=
  h _ List.mem_cons_self

/-- Settles O33. -/
theorem readGroupReturnsTheRecord : Obligations.ReadGroupReturnsTheRecord := by
  intro s group hp hsize
  refine ⟨_, congrArg Host.Outcome.next (State.request_of_powered hp _), ?_⟩
  split
  · next bad => exact refused_of (by simp [State.readGroup, isGroupNumber_of_bad bad])
  · next good =>
    have number := isGroupNumber_of_good good
    split
    · next hn => exact refused_of (by simp [State.readGroup, number, hn])
    · next g hg =>
      obtain ⟨hc, hw⟩ := hsize g hg
      have work : s.atWork.readGroup group = ⟨s.atWork, .ok, s.groupBytes group g⟩ := by
        unfold State.readGroup
        rw [number, State.atWork_groupGet, hg]
        rfl
      rw [serve_taken (t := s.atWork) work rfl]
      have alone : onlyChanges [.journal] s.atWork s.atWork := s.atWork.onlyChanges_refl _
      refine ⟨_, rfl, onlyChanges_withLink (parts := []) alone, State.length_groupBytes hc hw, State.groupBytes_settings hc hw,
        fun i hi => (State.groupBytes_chain hc hw hi).head, fun i hi => ?_, fun i hi => ?_⟩
      · have slot := State.groupBytes_waiting (s := s) (n := group) hc hw hi
        unfold State.waitingSlot at slot
        cases hwait : g.waiting[i]? with
        | none => rw [hwait] at slot; exact slot.head
        | some p =>
          rw [hwait] at slot
          simp only [offsets, Nat.add_right_comm _ (2 * i), Nat.reduceAdd] at slot
          exact slot
      · have slot := State.groupBytes_member (s := s) (n := group) hc hw hi
        unfold State.memberSlot at slot
        cases hmember : (g.chain[i]?).bind s.tool? with
        | none => rw [hmember] at slot; exact slot.head
        | some x =>
          rw [hmember] at slot
          simp only [offsets, Nat.add_right_comm _ (8 * i), Nat.reduceAdd] at slot
          exact slot

end Sys2Proof.Machine
end

section
/-! DEFINE_GROUP: the checks of R122 in their order, then the record, the group fields and the seats of R123, and the service
that they call for. -/

namespace Sys2Proof.Machine

/-- The record that a DEFINE_GROUP asks for, before its waiting list: the cursor at 0, the two settings clamped (R123). -/
def Group.requested (k : Kind) (c : List Nat) (p : Policy) (margin : Nat) (a : Exhaustion) (percent : Nat) (r : Responses) :
    Group := ⟨k, c, p, 0, min 100000 margin, a, min 50 percent, r, []⟩

/-! ### Operands -/

theorem chainArg_eq_some {len : Nat} {chain c : List Nat} : chainArg len chain = some c ↔
    c = chain.take len ∧ len ≠ 0 ∧ len ≤ 8 ∧ (∀ n ∈ c, n ≠ 0 ∧ n ≤ 128) ∧ c.Nodup := by
  unfold chainArg
  dsimp only
  simp only [Option.ite_none_right_eq_some, Option.some.injEq, List.all_eq_true, isToolNumber_iff, Nat.one_le_iff_ne_zero]
  constructor
  · rintro ⟨⟨h0, h8, numbers, nodup⟩, rfl⟩
    exact ⟨rfl, h0, h8, numbers, nodup⟩
  · rintro ⟨rfl, h0, h8, numbers, nodup⟩
    exact ⟨⟨h0, h8, numbers, nodup⟩, rfl⟩

theorem policyArg_eq_some {n : Nat} {p : Policy} :
    policyArg n = some p ↔ n ≤ 1 ∧ p = if n = 0 then .chain else .rotate := by
  rcases n with _ | _ | n <;> simp [policyArg, eq_comm]

theorem exhaustionArg_eq_some {n : Nat} {a : Exhaustion} :
    exhaustionArg n = some a ↔ n ≤ 1 ∧ a = if n = 0 then .hold else .runOn := by
  rcases n with _ | _ | n <;> simp [exhaustionArg, eq_comm]

theorem responseArg_isSome {n : Nat} : (∃ r, responseArg n = some r) ↔ n ≤ 3 := by
  rcases n with _ | _ | _ | _ | n <;> simp [responseArg]

theorem responsesArg_isSome {b un ov cl : Nat} :
    (∃ r, responsesArg b un ov cl = some r) ↔ b ≤ 3 ∧ un ≤ 3 ∧ ov ≤ 3 ∧ cl ≤ 3 := by
  simp only [← responseArg_isSome]
  unfold responsesArg
  cases responseArg b <;> cases responseArg un <;> cases responseArg ov <;> cases responseArg cl <;> simp

namespace State

/-- Two settings that start at 0, as R171 reports them. -/
theorem taken_settings (margin percent : Nat) :
    taken ((setting 0 100000 margin).clamped || (setting 0 50 percent).clamped) =
      if 100000 < margin ∨ 50 < percent then .adjusted else .ok := by
  simp [taken, setting_clamped]

variable {s : State}

/-! ### The checks of R122 -/

theorem refuseGroup_eq (s : State) (group : Nat) (k : Kind) (c : List Nat) : s.refuseGroup group k c =
    if ∃ n ∈ c, s.tool? n = none then some .notDefined
    else if ∃ n ∈ c, (s.tool? n).map Tool.kind ≠ some k then some .wrongKind
    else if ∃ n ∈ c, (s.tool? n).map Tool.group ≠ some 0 ∧ (s.tool? n).map Tool.group ≠ some group then some .conflict
    else if ∃ n ∈ s.chainOf group, n ∉ c ∧
        (s.toolReserved n = true ∨ ∃ p ∈ s.waitingOf group, (s.position p).active = n) then some .busy
    else none := by
  unfold refuseGroup
  by_cases undefined : ∃ n ∈ c, s.tool? n = none
  · rw [if_pos undefined, if_pos (by simpa using undefined)]
  · rw [if_neg undefined, if_neg (by simpa using undefined)]
    have held : ∀ n ∈ c, ∃ x, s.tool? n = some x := fun n hn =>
      Option.ne_none_iff_exists'.1 fun none => undefined ⟨n, hn, none⟩
    refine if_congr ?kinds rfl (if_congr ?groups rfl ?dropped)
    case kinds =>
      rw [List.any_eq_true]
      refine exists_congr fun n => and_congr_right fun hn => ?_
      obtain ⟨x, hx⟩ := held n hn
      simp [hx]
    case groups =>
      rw [List.any_eq_true]
      refine exists_congr fun n => and_congr_right fun hn => ?_
      obtain ⟨x, hx⟩ := held n hn
      simp [hx]
    case dropped =>
      unfold chainOf waitingOf
      cases s.group? group with
      | none => simp
      | some g => simp [Group.dropped, waitsFor]

/-! ### The seats and the service of R123 -/

theorem waitingSeat_eq (s : State) (n : Nat) : s.waitingSeat n = allPositions.find? fun p =>
    decide ((s.position p).active = n ∧ (s.position p).state = .waiting ∧ ∀ e ∈ s.groups, p ∉ e.2.waiting) := by
  unfold waitingSeat
  refine congrArg (fun f => allPositions.find? f) (funext fun p => ?_)
  rw [Bool.eq_iff_iff]
  simp [and_assoc]

theorem seatsAdded_eq (s : State) (added : List Nat) : s.seatsAdded added = added.filterMap fun n =>
    allPositions.find? fun p =>
      decide ((s.position p).active = n ∧ (s.position p).state = .waiting ∧ ∀ e ∈ s.groups, p ∉ e.2.waiting) :=
  congrArg (fun f => added.filterMap f) (funext s.waitingSeat_eq)

/-- Whether a DEFINE_GROUP calls for a service of its list (R123). -/
def callsService (s : State) (group : Nat) (g : Group) : Bool :=
  s.makesEligible (s.regroup group g) group { g with waiting := s.waitingFor group g.chain } ||
    !(s.seatsAdded (g.chain.filter (· ∉ s.chainOf group))).isEmpty

/-- A service is called for by a seat put in, or by a member that was no eligible one before (R123). -/
theorem callsService_iff (s : State) (group : Nat) (g : Group) : s.callsService group g = true ↔
    s.seatsAdded (g.chain.filter (· ∉ s.chainOf group)) ≠ [] ∨
      ∃ n ∈ g.chain, ((s.tool? n).any fun x => x.eligible g.margin) = true ∧ s.wasEligibleMember group n = false := by
  have member : s.makesEligible (s.regroup group g) group { g with waiting := s.waitingFor group g.chain } = true ↔
      ∃ n ∈ g.chain, ((s.tool? n).any fun x => x.eligible g.margin) = true ∧ s.wasEligibleMember group n = false := by
    unfold makesEligible
    rw [List.any_eq_true]
    refine exists_congr fun n => and_congr_right fun hn => ?_
    rw [regroup_toolGet, if_pos hn, Bool.and_eq_true, Bool.not_eq_true']
    refine and_congr_left fun _ => ?_
    cases s.tool? n <;> rfl
  rw [callsService, Bool.or_eq_true, member, Bool.not_eq_true', List.isEmpty_eq_false_iff, or_comm]

/-- A DEFINE_GROUP is its writes and the service that they call for (R123). -/
theorem writeGroup_eq_eventIf (s : State) (group : Nat) (g : Group) :
    s.writeGroup group g = (s.regroup group g).eventIf (s.callsService group g) group := rfl

theorem regroup_frame (s : State) (group : Nat) (g : Group) :
    onlyChanges [.journal, .tools, .groups] s (s.regroup group g) := by
  unfold regroup
  refine onlyChanges_trans (onlyChanges_trans (t := ((s.commit _).setGroup group _)) (fun x hx => ?_)
    (onlyChanges_mono (setGroupField_frame _ 0 _) (by decide))) (onlyChanges_mono (setGroupField_frame _ group _) (by decide))
  cases x <;> first | rfl | simp at hx

/-! ### The request -/

section

variable {group kind len : Nat} {chain : List Nat} {policy margin action percent b un ov cl : Nat}

/-- A number or an enumeration out of range, or a chain that is none, refuses the request (R122). -/
theorem defineGroup_of_bad (bad : group = 0 ∨ 32 < group ∨ 1 < kind ∨ len = 0 ∨ 8 < len ∨
      (∃ n ∈ chain.take len, n = 0 ∨ 128 < n) ∨ ¬(chain.take len).Nodup ∨ 1 < policy ∨ 1 < action ∨ 3 < b ∨ 3 < un ∨
      3 < ov ∨ 3 < cl) :
    s.defineGroup group kind len chain policy margin action percent b un ov cl = s.refuse .badValue := by
  unfold defineGroup
  split
  · next k c p a r hgroup hkind hchain hpolicy haction hresponses =>
    exfalso
    have number := isGroupNumber_iff.1 hgroup
    have kinds : kind ≤ 1 := by rcases kindArg_eq_some.1 hkind with ⟨h, _⟩ | ⟨h, _⟩ <;> omega
    obtain ⟨rfl, h0, h8, numbers, nodup⟩ := chainArg_eq_some.1 hchain
    have policies := (policyArg_eq_some.1 hpolicy).1
    have actions := (exhaustionArg_eq_some.1 haction).1
    have responses := responsesArg_isSome.1 ⟨r, hresponses⟩
    have members : ¬ ∃ n ∈ chain.take len, n = 0 ∨ 128 < n := fun ⟨n, hn, out⟩ => by
      have := numbers n hn
      omega
    simp only [members, nodup, not_true, false_or] at bad
    omega
  · rfl

/-- With its operands in range the request is refused by the checks of R122, or taken with its settings clamped (R123). -/
theorem defineGroup_of_good {k : Kind} {c : List Nat} {p : Policy} {a : Exhaustion} {r : Responses}
    (hgroup : isGroupNumber group = true) (hkind : kindArg kind = some k) (hchain : chainArg len chain = some c)
    (hpolicy : policyArg policy = some p) (haction : exhaustionArg action = some a)
    (hresponses : responsesArg b un ov cl = some r) :
    s.defineGroup group kind len chain policy margin action percent b un ov cl =
      (s.refuseGroup group k c).elim
        ((s.writeGroup group (.requested k c p margin a percent r)).accept
          (if 100000 < margin ∨ 50 < percent then .adjusted else .ok)) s.refuse := by
  have values (hi v : Nat) : (setting 0 hi v).value = min hi v := clamp_zero hi v
  unfold defineGroup
  rw [hgroup, hkind, hchain, hpolicy, haction, hresponses]
  dsimp only
  rw [values, values, taken_settings]
  cases s.refuseGroup group k c <;> rfl

end

end State

/-- Settles O32: bad operands, the four checks of R122 in their order, then the writes of R123. -/
theorem defineGroupWritesTheGroup : Obligations.DefineGroupWritesTheGroup := by
  intro s group kind len chain policy margin action percent b un ov cl hp c old waiting k hc hold hk
  obtain ⟨rfl, rfl⟩ : old = s.chainOf group ∧ waiting = s.waitingOf group := by
    unfold State.chainOf State.waitingOf
    cases hg : s.group? group <;> simpa [hg] using hold
  refine ⟨_, congrArg Host.Outcome.next (State.request_of_powered hp _), ?_⟩
  split
  · next bad =>
    subst hc
    exact refused_of (State.defineGroup_of_bad bad)
  · next good =>
    simp only [not_or, not_not] at good
    obtain ⟨h0, h32, hkind, len0, len8, members, nodup, hpolicy, haction, hb, hun, hov, hcl⟩ := good
    have number : isGroupNumber group = true := isGroupNumber_iff.2 ⟨h0, by omega⟩
    have kinds : kindArg kind = some k := hk ▸ kindArg_of_good hkind
    have numbers : ∀ n ∈ c, n ≠ 0 ∧ n ≤ 128 := fun n hn => by
      by_contra out
      exact members ⟨n, hn, by omega⟩
    have chains : chainArg len chain = some c := chainArg_eq_some.2 ⟨hc, len0, by omega, numbers, nodup⟩
    have policies := policyArg_eq_some.2 ⟨Nat.not_lt.1 hpolicy, rfl⟩
    have actions := exhaustionArg_eq_some.2 ⟨Nat.not_lt.1 haction, rfl⟩
    obtain ⟨r, responses⟩ := responsesArg_isSome.2 (by omega : b ≤ 3 ∧ un ≤ 3 ∧ ov ≤ 3 ∧ cl ≤ 3)
    have work := State.defineGroup_of_good (s := s.atWork) (margin := margin) (percent := percent) number kinds chains
      policies actions responses
    rw [show s.atWork.refuseGroup group k c = s.refuseGroup group k c from rfl, s.refuseGroup_eq] at work
    split
    · next undefined => exact refused_of (by rw [work, if_pos undefined]; rfl)
    · next defined =>
      rw [if_neg defined] at work
      split
      · next wrong => exact refused_of (by rw [work, if_pos wrong]; rfl)
      · next right =>
        rw [if_neg right] at work
        split
        · next taken => exact refused_of (by rw [work, if_pos taken]; rfl)
        · next free =>
          rw [if_neg free] at work
          split
          · next busy => exact refused_of (by rw [work, if_pos busy]; rfl)
          · next idle =>
            rw [if_neg idle, Option.elim_none, State.writeGroup_eq_eventIf] at work
            rw [State.serve_taken_event work (s.atWork.regroup_frame group _ .link (by decide))]
            generalize hg : Group.requested k c _ margin _ percent r = g
            refine ⟨_, _, s.seatsAdded_eq _, takenOk_of (s.atWork.regroup_frame group g), ?_, ⟨r, responses, ?_⟩,
              if_congr ?_ rfl rfl⟩
            · subst hg; exact s.atWork.regroup_toolGet group _
            · subst hg; exact s.atWork.regroup_groupGet group _
            · subst hg; exact s.atWork.callsService_iff group _

end Sys2Proof.Machine
end

section
/-! SWAP_TIMER_EXPIRY and the idle millisecond: a swap timer expires or counts down, alone or with all the others (R141, R142,
R155, R166). -/

namespace Sys2Proof.Machine

/-- The next millisecond brings the position's swap timer to 0 (R141, R142). -/
def Position.expires (x : Position) : Bool := decide (x.state = .ordered ∧ x.timer ≤ 1)

/-- A position whose swap timer has reached 0: its tool and its reservation stand (R142). -/
def Position.expired (x : Position) : Position := { x with state := .timedOut, timer := 0 }

/-- A position after one millisecond (R141, R142). -/
def Position.counted (x : Position) : Position :=
  if x.state = .ordered then if x.timer ≤ 1 then x.expired else { x with timer := x.timer - 1 } else x

/-- The clock is 32 bits wide (R155). -/
theorem clockNext_eq (n : Nat) : clockNext n = (n + 1) % 2 ^ 32 := by norm_num [clockNext]

namespace State

/-- The SWAP_TIMEOUT notice of a position: the outgoing tool and the sister (R142, R153). -/
def swapTimeout (s : State) (p : Fin 12) : Notice :=
  ⟨.swapTimeout, some (stationOf p), some (seatKind p), (s.position p).active, s.tagOf (s.position p).active,
    (s.position p).sister, s.tagOf (s.position p).sister, s.clock⟩

/-- The notice, if any, that one millisecond makes for a position joins the queues (R142). -/
def timeoutJoins (s : State) (q : NoticeQueues) (p : Fin 12) : NoticeQueues :=
  if (s.position p).expires then q.push true (s.swapTimeout p) else q

/-- What a millisecond makes for a position is read from its record, the tool table and the clock alone. -/
theorem timeoutJoins_congr {s t : State} {p : Fin 12} (position : t.position p = s.position p) (tools : t.tools = s.tools)
    (clock : t.clock = s.clock) (q : NoticeQueues) : t.timeoutJoins q p = s.timeoutJoins q p := by
  simp only [timeoutJoins, swapTimeout, tagOf, tool?, position, tools, clock]

variable {s : State} {p : Fin 12}

/-! ### One timer -/

/-- An expiry is the write of the position and its notice (R142). -/
theorem timerExpiry_of_ordered (h : (s.position p).state = .ordered) : s.timerExpiry p =
    (s.setPosition p (s.position p).expired).withNotices (s.notices.push true (s.swapTimeout p)) := if_pos h

/-- The timer of a position in another state is stopped (R134). -/
theorem timerExpiry_of_stopped (h : (s.position p).state ≠ .ordered) : s.timerExpiry p = s := if_neg h

variable (s p)

/-- A position's millisecond does one of three things: its timer expires, it counts down, or it is stopped (R141, R142). -/
theorem countDown_cases :
    ((s.position p).expires = true ∧ (s.position p).counted = (s.position p).expired ∧
      s.countDown p = (s.setPosition p (s.position p).expired).withNotices (s.notices.push true (s.swapTimeout p))) ∨
    ((s.position p).expires = false ∧ s.countDown p = s.setPosition p (s.position p).counted) ∨
    ((s.position p).expires = false ∧ (s.position p).counted = s.position p ∧ s.countDown p = s) := by
  unfold countDown Position.counted Position.expires
  dsimp only
  by_cases ho : (s.position p).state = .ordered
  · by_cases ht : (s.position p).timer ≤ 1
    · exact .inl ⟨by simp [ho, ht], by simp [ho, ht], by rw [if_pos ho, if_pos ht, timerExpiry_of_ordered ho]⟩
    · exact .inr (.inl ⟨by simp [ht], by simp [ho, ht]⟩)
  · exact .inr (.inr ⟨by simp [ho], if_neg ho, if_neg ho⟩)

theorem countDown_frame : onlyChanges [.positions, .notices] s (s.countDown p) := by
  rcases s.countDown_cases p with ⟨_, _, h⟩ | ⟨_, h⟩ | ⟨_, _, h⟩ <;> rw [h] <;> intro x hx <;>
    cases x <;> first | rfl | simp at hx

theorem countDown_position (q : Fin 12) :
    (s.countDown p).position q = if q = p then (s.position p).counted else s.position q := by
  rcases s.countDown_cases p with ⟨_, hc, h⟩ | ⟨_, h⟩ | ⟨_, hc, h⟩ <;> rw [h]
  · simp [hc]
  · simp
  · split <;> simp [*]

theorem countDown_notices : (s.countDown p).notices = s.timeoutJoins s.notices p := by
  unfold timeoutJoins
  rcases s.countDown_cases p with ⟨he, _, h⟩ | ⟨he, h⟩ | ⟨he, _, h⟩ <;> rw [h, he] <;> rfl

/-! ### All the timers -/

theorem countDowns_frame (ps : List (Fin 12)) : onlyChanges [.positions, .notices] s (ps.foldl countDown s) := by
  induction ps generalizing s with
  | nil => exact s.onlyChanges_refl _
  | cons p rest ih => exact onlyChanges_trans (s.countDown_frame p) (ih _)

/-- Timers count down each on its own, and their notices join the queues in the order of the positions (R141, R142). -/
theorem countDowns_reads {ps : List (Fin 12)} (h : ps.Nodup) :
    (∀ q, (ps.foldl countDown s).position q = if q ∈ ps then (s.position q).counted else s.position q) ∧
    (ps.foldl countDown s).notices = ps.foldl s.timeoutJoins s.notices := by
  induction ps generalizing s with
  | nil => exact ⟨fun _ => rfl, rfl⟩
  | cons p rest ih =>
    obtain ⟨fresh, nodup⟩ := List.nodup_cons.1 h
    obtain ⟨positions, notices⟩ := ih (s.countDown p) nodup
    have elsewhere {q : Fin 12} (hq : q ≠ p) : (s.countDown p).position q = s.position q :=
      (s.countDown_position p q).trans (if_neg hq)
    refine ⟨fun q => ?_, ?_⟩
    · rw [List.foldl_cons, positions]
      by_cases hq : q = p
      · subst hq; simp [fresh, countDown_position]
      · simp [elsewhere hq, hq]
    · rw [List.foldl_cons, notices, countDown_notices, List.foldl_cons]
      refine List.foldl_ext _ _ _ fun queues q hq => ?_
      exact timeoutJoins_congr (elsewhere fun same => fresh (same ▸ hq)) (s.countDown_frame p .tools (by decide))
        (s.countDown_frame p .clock (by decide)) queues

/-! ### The gap, and the whole millisecond -/

/-- The link port after one millisecond (R166). -/
theorem countGap_eq : s.countGap = s.withLink
    (if s.link.state = .assemble then if 4 ≤ s.link.gap then s.link.hunting else { s.link with gap := s.link.gap + 1 }
    else s.link) := by
  unfold countGap
  by_cases ha : s.link.state = .assemble
  · by_cases hg : 4 ≤ s.link.gap
    · simp [ha, hg, gapPassed, hunt]
    · simp [ha, hg]
  · rw [if_neg ha, if_neg ha]
    rfl

theorem withLink_frame (l : LinkPort) : onlyChanges [.link] s (s.withLink l) := fun x hx => by
  cases x <;> first | rfl | simp at hx

/-- The state of a millisecond after its clock and its swap timers (R141, R142, R155). -/
def timed : State := allPositions.foldl countDown (s.withClock (clockNext s.clock))

theorem millisecond_timed : s.millisecond = s.timed.countGap := rfl

theorem timed_frame : onlyChanges [.clock, .positions, .notices] s s.timed :=
  onlyChanges_trans (fun x hx => by cases x <;> first | rfl | simp at hx)
    (onlyChanges_mono ((s.withClock (clockNext s.clock)).countDowns_frame allPositions) (by decide))

theorem timed_clock : s.timed.clock = clockNext s.clock :=
  (s.withClock (clockNext s.clock)).countDowns_frame allPositions .clock (by decide)

theorem timed_position (q : Fin 12) : s.timed.position q = (s.position q).counted :=
  ((countDowns_reads _ (by decide)).1 q).trans (if_pos (by revert q; decide))

theorem timed_notices : s.timed.notices = (allPositions.filter fun p => (s.position p).expires).foldl
    (fun q p => q.push true { s.swapTimeout p with time := s.timed.clock }) s.notices := by
  rw [timed_clock, List.foldl_filter]
  exact (countDowns_reads _ (by decide)).2

theorem millisecond_eq : s.millisecond = s.timed.withLink
    (if s.link.state = .assemble then if 4 ≤ s.link.gap then s.link.hunting else { s.link with gap := s.link.gap + 1 }
    else s.link) := by
  have link : s.timed.link = s.link := s.timed_frame .link (by decide)
  rw [millisecond_timed, countGap_eq, link]

theorem millisecond_frame : onlyChanges [.clock, .positions, .notices, .link] s s.millisecond := by
  rw [millisecond_eq]
  exact onlyChanges_trans (onlyChanges_mono s.timed_frame (by decide))
    (onlyChanges_mono (s.timed.withLink_frame _) (by decide))

end State

/-- Settles O22: of an ORDERED position the record and the notice are written, and any other position stands. -/
theorem swapTimerExpires : Obligations.SwapTimerExpires := by
  intro s p hp
  refine ⟨_, congrArg Host.Outcome.next (State.event_of_powered hp _), ?_⟩
  by_cases h : (s.position p).state = .ordered
  · rw [State.timerExpiry_of_ordered (s := s.withJournal []) h, if_pos h, if_pos h]
    refine ⟨fun x hx => ?_, oneBecomes_set s.positions p (s.position p).expired, rfl⟩
    cases x <;> first | rfl | simp at hx
  · rw [State.timerExpiry_of_stopped (s := s.withJournal []) h, if_neg h, if_neg h]
    refine ⟨fun x hx => ?_, oneBecomes_self s.positions p, rfl⟩
    cases x <;> first | rfl | simp at hx

/-- Settles O2: the timers count down each on its own after the clock, and the gap of the link is counted last. -/
theorem idleMillisecondPasses : Obligations.IdleMillisecondPasses := by
  intro s hq
  have idle : step s = .next (tick s) := by rw [step, hq]
  refine ⟨fun off => idle.trans (congrArg Host.Outcome.next (State.event_of_unpowered off _)), fun on => ?_⟩
  refine ⟨_, idle.trans (congrArg Host.Outcome.next (State.event_of_powered on _)), ?_⟩
  refine ⟨?clock, fun p => ?position, ?notices, ?link, ?frame⟩
  case clock => rw [State.millisecond_eq, State.withLink_clock, State.timed_clock, clockNext_eq]; rfl
  case position => rw [State.millisecond_eq, State.withLink_position, State.timed_position]; rfl
  case notices => rw [State.millisecond_eq, State.withLink_notices, State.withLink_clock, State.timed_notices]; rfl
  case link => rw [State.millisecond_eq, State.withLink_link]; rfl
  case frame =>
    refine onlyChanges_trans (t := s.withJournal []) (fun x hx => ?_)
      (onlyChanges_mono (s.withJournal []).millisecond_frame (by decide))
    cases x <;> first | rfl | simp at hx

end Sys2Proof.Machine
end

section
/-! CONFIRM_SWAP, CANCEL_SWAP and SWAP_NOW: the checks in their order, the writes of a taken one, and the selections and
reports that follow (R143 to R147). -/

namespace Sys2Proof.Machine

namespace State

variable (s : State)

/-! ### The position that a request names (R134) -/

theorem atPosition_of_gt {position : Nat} (far : 11 < position) (work : Fin 12 → Answer) :
    s.atPosition position work = s.refuse .badValue := by
  rw [atPosition, positionArg_of_gt far]

theorem atPosition_of_absent {p : Fin 12} (h : (s.config (stationOf p)).present = false) (work : Fin 12 → Answer) :
    s.atPosition p.val work = s.refuse .absent := by
  rw [atPosition, positionArg_val]
  exact if_neg (by simp [h])

theorem atPosition_of_present {p : Fin 12} (h : (s.config (stationOf p)).present = true) (work : Fin 12 → Answer) :
    s.atPosition p.val work = work p := by
  rw [atPosition, positionArg_val]
  exact if_pos h

/-! ### SWAP_NOW -/

variable {s} {p : Fin 12}

/-- A position without a tool to change, or with a sister on its way, refuses a SWAP_NOW (R147). -/
theorem swapNow_stands (h : (s.config (stationOf p)).present = true)
    (hs : (s.position p).state = .empty ∨ (s.position p).state = .serving ∨ (s.position p).state = .ordered ∨
      (s.position p).state = .timedOut) : s.swapNow p.val = s.refuse .wrongState := by
  refine (s.atPosition_of_present h _).trans ?_
  rcases hs with h | h | h | h <;> simp only [h]

/-- In the other states a SWAP_NOW sends the position to selection (R147). -/
theorem swapNow_selects (h : (s.config (stationOf p)).present = true)
    (hs : ¬((s.position p).state = .empty ∨ (s.position p).state = .serving ∨ (s.position p).state = .ordered ∨
      (s.position p).state = .timedOut)) : s.swapNow p.val = (s.selection p).accept .ok := by
  simp only [not_or] at hs
  obtain ⟨empty, serving, ordered, timedOut⟩ := hs
  refine (s.atPosition_of_present h _).trans ?_
  split <;> first | rfl | exact absurd ‹_› ‹_›

end State

/-- Settles O50: the selection of a taken SWAP_NOW uses nothing of the port. -/
theorem swapNowSelects : Obligations.SwapNowSelects := by
  intro s position hp
  refine ⟨_, congrArg Host.Outcome.next (State.request_of_powered hp _),
    fun far => refused_of (State.atPosition_of_gt _ far _), ?_⟩
  rintro p rfl
  split
  · next absent => exact refused_of (State.atPosition_of_absent s.atWork absent _)
  · next hpres =>
    have present : (s.config (stationOf p)).present = true := by simpa using hpres
    split
    · next stands => exact refused_of (State.swapNow_stands (s := s.atWork) present stands)
    · next selects =>
      have served := serve_taken_then (work := fun u => u.swapNow p.val) (f := fun u => u.selection p)
        (State.swapNow_selects (s := s.atWork) present selects) rfl (State.selection_link ..)
        fun _ => State.withLink_selection ..
      exact ⟨_, takenOk_of (s.atWork.onlyChanges_refl _), served⟩

/-! ### CANCEL_SWAP -/

namespace State

variable (s : State) (p : Fin 12)

theorem dropSister_frame : onlyChanges [.journal, .tools, .positions] s (s.dropSister p) := by
  unfold dropSister
  refine onlyChanges_of ?_ ?_ ?_ ?_ ?_ ?_ ?_ ?_ ?_ ?_ ?_ ?_ ?_ ?_ <;> simp [place]

theorem dropSister_toolGet (n : Nat) : (s.dropSister p).tool? n =
    if n = (s.position p).sister then (s.tool? n).map fun y => { y with placement := .store } else s.tool? n := by
  by_cases h : n = (s.position p).sister <;> simp [dropSister, h]

theorem dropSister_positions :
    oneBecomes p ⟨.halted, (s.position p).active, 0, 0⟩ s.positions (s.dropSister p).positions := by
  have set : (s.dropSister p).positions = s.positions.set p ⟨.halted, (s.position p).active, 0, 0⟩ := by simp [dropSister]
  rw [set]
  exact oneBecomes_set _ _ _

/-- The report of the released sister is that of the tool in STORE (R7, R146). -/
theorem dropSister_reportIfEligible {y : Tool} (hy : s.tool? (s.position p).sister = some y) :
    (s.dropSister p).reportIfEligible (s.position p).sister =
      (s.dropSister p).eventIf (s.eligibleNow { y with placement := .store }) y.group := by
  have margins := eligibleNow_of_groups (s.dropSister_frame p .groups (by decide)) { y with placement := .store }
  unfold reportIfEligible eventIf
  rw [dropSister_toolGet, if_pos rfl, hy]
  dsimp only [Option.map_some]
  rw [margins]

theorem dropSister_reportIfEligible_none (hy : s.tool? (s.position p).sister = none) :
    (s.dropSister p).reportIfEligible (s.position p).sister = s.dropSister p := by
  unfold reportIfEligible
  rw [dropSister_toolGet, if_pos rfl, hy]
  rfl

variable {s p}

/-- A CANCEL_SWAP of a position with a sister on its way is taken; any other is refused (R146). -/
theorem cancelSwap_checked (h : (s.config (stationOf p)).present = true) : s.cancelSwap p.val =
    if (s.position p).state = .ordered ∨ (s.position p).state = .timedOut then
      ((s.dropSister p).reportIfEligible (s.position p).sister).accept .ok
    else s.refuse .wrongState := s.atPosition_of_present h _

end State

/-- Settles O49: the writes of a taken CANCEL_SWAP, and the event that the released sister may make. -/
theorem cancelSwapHaltsThePosition : Obligations.CancelSwapHaltsThePosition := by
  intro s position hp
  refine ⟨_, congrArg Host.Outcome.next (State.request_of_powered hp _),
    fun far => refused_of (State.atPosition_of_gt _ far _), ?_⟩
  rintro p x rfl rfl
  split
  · next absent => exact refused_of (State.atPosition_of_absent s.atWork absent _)
  · next hpres =>
    have present : (s.config (stationOf p)).present = true := by simpa using hpres
    have checked := State.cancelSwap_checked (s := s.atWork) present
    split
    · next other => exact refused_of (checked.trans (if_neg (not_or.2 other)))
    · next coming =>
      have work := checked.trans (if_pos (by tauto))
      have link : (s.atWork.dropSister p).link = s.link.executing := s.atWork.dropSister_frame p .link (by decide)
      refine ⟨(s.atWork.dropSister p).withLink (s.link.sending ⟨s.summaryByte, .ok, []⟩),
        takenOk_of (s.atWork.dropSister_frame p), s.atWork.dropSister_positions p, s.atWork.dropSister_toolGet p, ?_⟩
      split
      · next hy =>
        rw [s.atWork.dropSister_reportIfEligible_none p hy] at work
        exact serve_taken work link
      · next y hy =>
        rw [s.atWork.dropSister_reportIfEligible p hy] at work
        exact State.serve_taken_event (work := fun u => u.cancelSwap p.val) work link

/-! ### CONFIRM_SWAP -/

namespace State

variable (s : State) (p : Fin 12) (u : Nat)

/-- A taken confirmation writes the tools, the position, the one monitor of the station and the notice (R144, R145). -/
theorem exchange_eq : s.exchange p u =
    ((s.swapSeats p u).setMonitor (stationOf p) ((s.monitor (stationOf p)).afterToolChange (seatKind p) true)).notify false
      .swapDone (some (stationOf p)) (some (seatKind p)) u (s.position p).active
      (flagCode (decide (u ≠ (s.position p).sister))) := by
  have monitor : (s.swapSeats p u).monitor (stationOf p) = s.monitor (stationOf p) := by simp [swapSeats, place]
  have report := (s.swapSeats p u).mountReport_eq p
  rw [monitor] at report
  rw [← report]
  rfl

theorem exchange_frame : onlyChanges [.journal, .tools, .positions, .monitors, .notices] s (s.exchange p u) := by
  rw [exchange_eq]
  unfold swapSeats
  refine onlyChanges_of ?_ ?_ ?_ ?_ ?_ ?_ ?_ ?_ ?_ ?_ ?_ ?_ ?_ ?_ <;> simp [place]

theorem exchange_toolGet (n : Nat) : (s.exchange p u).tool? n =
    if n = u then (s.tool? n).map fun y => { y with placement := .mounted p }
    else if n = (s.position p).active ∨ n = (s.position p).sister then
      (s.tool? n).map fun y => { y with placement := .store }
    else s.tool? n := by
  rw [exchange_eq]
  simp only [swapSeats, notify_toolGet, setMonitor_toolGet, setPosition_toolGet, place_toolGet, commit_eq, withJournal_toolGet]
  split_ifs <;> simp_all [Function.comp_def]

/-- An exchange moves tools and changes nothing else of their records. -/
theorem exchange_keeps {α : Type} (π : Tool → α) (hπ : ∀ y x, π { y with placement := x } = π y) (n : Nat) :
    ((s.exchange p u).tool? n).map π = (s.tool? n).map π := by
  rw [exchange_toolGet]
  split_ifs <;> simp [Function.comp_def, hπ]

theorem exchange_positions : oneBecomes p ⟨.serving, u, 0, 0⟩ s.positions (s.exchange p u).positions := by
  have set : (s.exchange p u).positions = s.positions.set p ⟨.serving, u, 0, 0⟩ := by rw [exchange_eq]; simp [swapSeats]
  rw [set]
  exact oneBecomes_set _ _ _

theorem exchange_monitors : oneBecomes (stationOf p) ((s.monitor (stationOf p)).afterToolChange (seatKind p) true) s.monitors
    (s.exchange p u).monitors := by
  have set : (s.exchange p u).monitors =
      s.monitors.set (stationOf p) ((s.monitor (stationOf p)).afterToolChange (seatKind p) true) := by
    rw [exchange_eq]; simp [swapSeats]
  rw [set]
  exact oneBecomes_set _ _ _

/-- The SWAP_DONE notice says whether a substitute was mounted (R144, R145, R154). -/
theorem exchange_notices : (s.exchange p u).notices = s.notices.push false
    ⟨.swapDone, some (stationOf p), some (seatKind p), u, s.tagOf u, (s.position p).active,
      if u = (s.position p).sister then 0 else 1, s.clock⟩ := by
  have tag : (s.exchange p u).tagOf u = s.tagOf u := tagOf_of_tags (exchange_keeps s p u Tool.tag (fun _ _ => rfl) u)
  have code : flagCode (decide (u ≠ (s.position p).sister)) = if u = (s.position p).sister then 0 else 1 := by
    unfold flagCode; by_cases h : u = (s.position p).sister <;> simp [h]
  have notices : (s.swapSeats p u).notices = s.notices := by simp [swapSeats, place]
  have clock : (s.swapSeats p u).clock = s.clock := by simp [swapSeats, place]
  rw [← tag, ← code, ← notices, ← clock, exchange_eq]
  rfl

/-- A tool is BROKEN after an exchange as it was before (R144). -/
theorem exchange_isBroken (n : Nat) : (s.exchange p u).isBroken n = true ↔ (s.tool? n).map Tool.condition = some .broken := by
  rw [← exchange_keeps s p u Tool.condition (fun _ _ => rfl) n]
  unfold isBroken
  cases (s.exchange p u).tool? n <;> simp

/-- What follows the writes of a confirmation that mounts tool `u`: a BROKEN sister's position goes to selection, and the
outgoing tool and an unused sister are reported (R144, R145). -/
def swapFollows (s : State) (p : Fin 12) (u : Nat) (t : State) : State :=
  if u = (s.position p).sister then
    (if (s.tool? u).map Tool.condition = some .broken then t.selection p else t).reportIfEligible (s.position p).active
  else (t.reportIfEligible (s.position p).active).reportIfEligible (s.position p).sister

theorem swapFollows_link (t : State) : (s.swapFollows p u t).link = t.link := by
  unfold swapFollows
  split_ifs <;> simp

theorem withLink_swapFollows (t : State) (l : LinkPort) :
    s.swapFollows p u (t.withLink l) = (s.swapFollows p u t).withLink l := by
  unfold swapFollows
  split_ifs <;> simp only [withLink_selection, withLink_reportIfEligible]

variable {s p u}

theorem confirmSister_eq (h : u = (s.position p).sister) : s.confirmSister p = s.swapFollows p u (s.exchange p u) := by
  subst h
  unfold confirmSister swapFollows
  dsimp only
  rw [if_pos rfl]
  simp only [exchange_isBroken]

theorem confirmSubstitute_eq (h : u ≠ (s.position p).sister) :
    s.confirmSubstitute p u = s.swapFollows p u (s.exchange p u) := (if_neg h).symm

/-- A substitute is an eligible member of the sister's group (R143, step 6). -/
theorem isSubstitute_iff_member {sister : Nat} : s.isSubstitute sister u = true ↔
    ∃ x ∈ s.tool? sister, x.group ≠ 0 ∧ ∃ g ∈ s.group? x.group, u ∈ g.chain ∧ ∃ y ∈ s.tool? u, y.eligible g.margin = true := by
  have grouped (x : Tool) (g : Group) : s.groupOf x = some g ↔ x.group ≠ 0 ∧ s.group? x.group = some g := by
    unfold groupOf; by_cases h : x.group = 0 <;> simp [h]
  simp only [isSubstitute_iff, grouped, Option.mem_def]
  constructor
  · rintro ⟨x, g, y, hx, ⟨h0, hg⟩, hu, hy, he⟩
    exact ⟨x, hx, h0, g, hg, hu, y, hy, he⟩
  · rintro ⟨x, hx, h0, g, hg, hu, y, hy, he⟩
    exact ⟨x, g, y, hx, ⟨h0, hg⟩, hu, hy, he⟩

/-- The checks 3 to 6 of R143 at a position of a present station. -/
theorem confirmSwap_checked (number : isToolNumber u = true) (h : (s.config (stationOf p)).present = true) :
    s.confirmSwap p.val u =
      if (s.position p).state = .timedOut then s.refuse .late
      else if (s.position p).state ≠ .ordered then s.refuse .wrongState
      else if u ≠ (s.position p).sister ∧ ¬s.isSubstitute (s.position p).sister u = true then s.refuse .wrongTool
      else (s.swapFollows p u (s.exchange p u)).accept .ok := by
  refine (if_pos number).trans ((s.atPosition_of_present h _).trans ?_)
  refine if_congr Iff.rfl rfl (if_congr Iff.rfl rfl ?_)
  by_cases sister : u = (s.position p).sister
  · rw [if_pos sister, confirmSister_eq sister, if_neg (fun out => out.1 sister)]
  · rw [if_neg sister, confirmSubstitute_eq sister]
    by_cases member : s.isSubstitute (s.position p).sister u = true
    · rw [if_pos member, if_neg (fun out => out.2 member)]
    · rw [if_neg member, if_pos ⟨sister, member⟩]

end State

/-- Settles O48: the checks of R143 in their order, then the exchange of the tools and what follows it. -/
theorem confirmSwapExchangesTheTools : Obligations.ConfirmSwapExchangesTheTools := by
  intro s position tool hp
  refine ⟨_, congrArg Host.Outcome.next (State.request_of_powered hp _), fun bad => refused_of ?bad, ?_⟩
  case bad =>
    unfold State.confirmSwap
    split
    · next number =>
      have far : 11 < position := by rw [isToolNumber_iff] at number; omega
      exact State.atPosition_of_gt _ far _
    · rfl
  rintro p x rfl h0 h128 rfl
  have number : isToolNumber tool = true := isToolNumber_iff.2 ⟨h0, h128⟩
  split
  · next absent => exact refused_of ((if_pos number).trans (State.atPosition_of_absent s.atWork absent _))
  · next hpres =>
    have present : (s.config (stationOf p)).present = true := by simpa using hpres
    have checked := State.confirmSwap_checked (s := s.atWork) number present
    simp only [State.isSubstitute_iff_member, State.atWork_position, State.atWork_toolGet, State.atWork_groupGet] at checked
    split
    · next late => exact refused_of (checked.trans (if_pos late))
    · next late =>
      replace checked := checked.trans (if_neg late)
      split
      · next other => exact refused_of (checked.trans (if_pos other))
      · next ordered =>
        replace checked := checked.trans (if_neg ordered)
        split
        · next stranger => exact refused_of (checked.trans (if_pos stranger))
        · next known =>
          have work := checked.trans (if_neg known)
          have link : (s.atWork.exchange p tool).link = s.link.executing := s.atWork.exchange_frame p tool .link (by decide)
          have served := serve_taken_then (work := fun u => u.confirmSwap p.val tool) (f := s.atWork.swapFollows p tool) work
            link (State.swapFollows_link ..) fun _ => State.withLink_swapFollows ..
          refine ⟨_, takenOk_of (s.atWork.exchange_frame p tool), s.atWork.exchange_toolGet p tool,
            s.atWork.exchange_positions p tool, s.atWork.exchange_monitors p tool, s.atWork.exchange_notices p tool,
            fun substitute => served.trans (if_neg substitute), fun sister broken => ?_, fun sister whole => ?_⟩
          · exact served.trans ((if_pos sister).trans (by rw [State.atWork_toolGet, if_pos broken]; rfl))
          · exact served.trans ((if_pos sister).trans (by rw [State.atWork_toolGet, if_neg whole]; rfl))

end Sys2Proof.Machine
end

section
/-! The requests whose work is the work of the blocks: all but SET_STATION, FETCH_NOTICE, SET_ATTENTION and
RESET_SUPERVISOR. -/

namespace Sys2Proof.Machine

namespace Worked

variable (s : State)

/-! ### The tool requests -/

theorem defineTool (tool kind tag limit warn thr n l k low high stock depth nominal : Nat) :
    Worked s (s.defineTool tool kind tag limit warn thr n l k low high stock depth nominal).state := by
  unfold State.defineTool
  split
  · split
    · exact refl s
    · exact (commit ..).trans (setTool ..)
  · exact refl s

theorem adjustTool (tool bits tag limit warn thr n l k low high depth : Nat) :
    Worked s (s.adjustTool tool bits tag limit warn thr n l k low high depth).state := by
  unfold State.adjustTool
  split
  · exact refl s
  · split
    · exact refl s
    · split
      · exact refl s
      · split
        · exact refl s
        · exact adjustRecord ..

theorem readTool (tool : Nat) : Worked s (s.readTool tool).state := by
  unfold State.readTool
  split
  · split <;> exact refl s
  · exact refl s

theorem deleteTool (tool : Nat) : Worked s (s.deleteTool tool).state := by
  unfold State.deleteTool
  split
  · split
    · exact refl s
    · split
      · exact refl s
      · split
        · exact refl s
        · exact ((commit ..).trans (eraseTool ..)).trans (withIncidents ..)
  · exact refl s

theorem renewTool (tool stock : Nat) : Worked s (s.renewTool tool stock).state := by
  unfold State.renewTool
  split
  · split
    · exact refl s
    · split
      · exact refl s
      · exact ((commit ..).trans (setTool ..)).trans (ite (refl _) (eligibilityEvent ..))
  · exact refl s

theorem withdrawTool (tool : Nat) : Worked s (s.withdrawTool tool).state := by
  unfold State.withdrawTool
  split
  · split
    · exact refl s
    · split
      · exact refl s
      · exact (commit ..).trans (setTool ..)
  · exact refl s

theorem reinstateTool (tool : Nat) : Worked s (s.reinstateTool tool).state := by
  unfold State.reinstateTool
  split
  · split
    · exact refl s
    · split
      · exact refl s
      · split
        · exact refl s
        · exact ((commit ..).trans (setTool ..)).trans (reportIfEligible ..)
  · exact refl s

theorem clearReference (tool selector : Nat) : Worked s (s.clearReference tool selector).state := by
  unfold State.clearReference
  split
  · split
    · exact refl s
    · exact (commit ..).trans (setTool ..)
  · exact refl s

/-! ### The group requests -/

theorem defineGroup (group kind len : Nat) (chain : List Nat) (policy margin action percent b un ov cl : Nat) :
    Worked s (s.defineGroup group kind len chain policy margin action percent b un ov cl).state := by
  unfold State.defineGroup
  split
  · split
    · exact refl s
    · exact writeGroup ..
  · exact refl s

theorem readGroup (group : Nat) : Worked s (s.readGroup group).state := by
  unfold State.readGroup
  split
  · split <;> exact refl s
  · exact refl s

theorem deleteGroup (group : Nat) : Worked s (s.deleteGroup group).state := by
  unfold State.deleteGroup
  split
  · split
    · exact refl s
    · split
      · exact refl s
      · exact ((commit ..).trans (setGroupField ..)).trans (eraseGroup ..)
  · exact refl s

theorem clearTables : Worked s s.clearTables.state := by
  unfold State.clearTables
  split
  · exact refl s
  · exact (((commit ..).trans (withTools ..)).trans (withGroups ..)).trans (withIncidents ..)

/-! ### The station requests -/

theorem atStation (station : Nat) (work : Fin 6 → Answer) (h : ∀ st, Worked s (work st).state) :
    Worked s (s.atStation station work).state := by
  unfold State.atStation
  split
  · exact refl s
  · split
    · exact h _
    · exact refl s

theorem movePresence (st : Fin 6) (was is : Bool) : Worked s (s.movePresence st was is) := by
  unfold State.movePresence
  split
  · exact (resetMonitor ..).trans (setFlag ..)
  · exact ((resetMonitor ..).trans (setIncident ..)).trans (setFlag ..)
  · exact refl s
  · exact refl s

theorem readStation (station : Nat) : Worked s (s.readStation station).state := by
  unfold State.readStation
  split <;> exact refl s

theorem verdict (station judged : Nat) : Worked s (s.verdict station judged).state := by
  unfold State.verdict
  split
  · split_ifs
    · exact refl s
    · exact refl s
    · exact refl s
    · exact (condemnByVerdict ..).trans (closeIncident ..)
  · exact refl s

theorem holdStation (station : Nat) : Worked s (s.holdStation station).state :=
  atStation s station _ fun _ => setFlag ..

theorem resumeStation (station : Nat) : Worked s (s.resumeStation station).state :=
  atStation s station _ fun _ => (setFlag ..).trans (ite ((resumeAt ..).trans (resumeAt ..)) (refl _))

theorem clearFault (station : Nat) : Worked s (s.clearFault station).state :=
  atStation s station _ fun _ => (modifyMonitor ..).trans (setFlag ..)

theorem resetStation (station : Nat) : Worked s (s.resetStation station).state :=
  atStation s station _ fun _ => takeStationReset ..

theorem readCapture (station start : Nat) : Worked s (s.readCapture station start).state := by
  refine atStation s station _ fun _ => ?_
  split <;> exact refl s

/-! ### The swap requests -/

theorem atPosition (position : Nat) (work : Fin 12 → Answer) (h : ∀ p, Worked s (work p).state) :
    Worked s (s.atPosition position work).state := by
  unfold State.atPosition
  split
  · exact refl s
  · split
    · exact h _
    · exact refl s

theorem mount (position tool : Nat) : Worked s (s.mount position tool).state := by
  unfold State.mount
  split
  · refine atPosition s position _ fun p => ?_
    split
    · exact refl s
    · exact takeMount ..
  · exact refl s

theorem dismount (position : Nat) : Worked s (s.dismount position).state := by
  refine atPosition s position _ fun p => ?_
  split
  · exact refl s
  · exact refl s
  · exact refl s
  all_goals exact takeDismount ..

theorem confirmSwap (position tool : Nat) : Worked s (s.confirmSwap position tool).state := by
  unfold State.confirmSwap
  split
  · refine atPosition s position _ fun p => ?_
    dsimp only
    split_ifs
    · exact refl s
    · exact refl s
    · exact confirmSister ..
    · exact confirmSubstitute ..
    · exact refl s
  · exact refl s

theorem cancelSwap (position : Nat) : Worked s (s.cancelSwap position).state := by
  refine atPosition s position _ fun p => ?_
  split
  · exact takeCancel ..
  · exact refl s

theorem swapNow (position : Nat) : Worked s (s.swapNow position).state := by
  refine atPosition s position _ fun p => ?_
  split
  · exact selection ..
  · exact selection ..
  · exact selection ..
  · exact selection ..
  all_goals exact refl s

/-! ### The timers -/

theorem countDown (p : Fin 12) : Worked s (s.countDown p) :=
  ite (ite (timerExpiry ..) (setPosition ..)) (refl s)

theorem countDowns (ps : List (Fin 12)) : Worked s (ps.foldl State.countDown s) := by
  induction ps generalizing s with
  | nil => exact refl s
  | cons p rest ih => exact (countDown s p).trans (ih _)

end Worked

end Sys2Proof.Machine
end

section
/-! A fetch from the notice queues: which notice it takes, and what it leaves (R157, R158). -/

namespace Sys2Proof.Machine

namespace NoticeQueues

variable {q : NoticeQueues} {n : Notice} {rest : List Notice}

theorem fetch_of_empty (hu : q.urgent = []) (hr : q.routine = []) : q.fetch = none := by
  simp [fetch, hu, hr]

/-- The oldest urgent notice is fetched where no routine one waits or the count is not 4 (R158). -/
theorem fetch_urgent (hu : q.urgent = n :: rest) (turn : q.routine = [] ∨ q.count ≠ 4) :
    q.fetch = some (false, n, q.afterUrgent rest) := by
  unfold fetch
  rcases turn with noRoutine | early
  · rw [hu, noRoutine]
  · cases hr : q.routine with
    | nil => rw [hu]
    | cons m rest' => rw [hu]; exact if_neg early

/-- The oldest routine notice is fetched where no urgent one waits or the count is 4 (R158). -/
theorem fetch_routine (hr : q.routine = n :: rest) (turn : q.urgent = [] ∨ q.count = 4) :
    q.fetch = some (true, n, q.afterRoutine rest) := by
  unfold fetch
  rcases turn with noUrgent | four
  · rw [hr, noUrgent]
  · cases hu : q.urgent with
    | nil => rw [hr]
    | cons m rest' => rw [hr]; exact if_pos four

/-- A fetch takes the head of one of the two queues. -/
theorem fetch_cases (q : NoticeQueues) : q.fetch = none ∨
    (∃ n rest, q.urgent = n :: rest ∧ q.fetch = some (false, n, q.afterUrgent rest)) ∨
    ∃ n rest, q.routine = n :: rest ∧ q.fetch = some (true, n, q.afterRoutine rest) := by
  cases hu : q.urgent with
  | nil =>
    cases hr : q.routine with
    | nil => exact .inl (fetch_of_empty hu hr)
    | cons m rest' => exact .inr (.inr ⟨m, rest', rfl, fetch_routine hr (.inl hu)⟩)
  | cons n rest =>
    by_cases four : q.count = 4
    · cases hr : q.routine with
      | nil => exact .inr (.inl ⟨n, rest, rfl, fetch_urgent hu (.inl hr)⟩)
      | cons m rest' => exact .inr (.inr ⟨m, rest', rfl, fetch_routine hr (.inr four)⟩)
    · exact .inr (.inl ⟨n, rest, rfl, fetch_urgent hu (.inr four)⟩)

end NoticeQueues

theorem State.fetchNotice_of_none {s : State} (h : s.notices.fetch = none) : s.fetchNotice = s.refuse .empty := by
  rw [fetchNotice, h]

theorem State.fetchNotice_of_some {s : State} {routine : Bool} {n : Notice} {q : NoticeQueues}
    (h : s.notices.fetch = some (routine, n, q)) :
    s.fetchNotice = ⟨s.withNotices q, .ok, q.fetchBytes routine n⟩ := by
  rw [fetchNotice, h]

end Sys2Proof.Machine
end

section
/-! SET_ATTENTION: the enables and the trigger level that it carries (R161). -/

namespace Sys2Proof.Machine

/-! ### Operands -/

theorem enableArg_of_le {n : Nat} (h : n ≤ 1) : enableArg n = some (decide (n = 1)) := by
  obtain rfl | rfl : n = 0 ∨ n = 1 := by omega
  · rfl
  · rfl

theorem enableArg_of_gt {n : Nat} (h : 1 < n) : enableArg n = none := by
  unfold enableArg
  split
  · omega
  · omega
  · rfl

/-- A trigger level is clamped where it is none of the four (R161). -/
theorem levelSetting_clamped (v : Nat) : (levelSetting v).clamped = true ↔ ¬(v = 1 ∨ v = 8 ∨ v = 16 ∨ v = 32) := by
  simp only [levelSetting, decide_eq_true_eq]
  split_ifs <;> omega

theorem taken_levelSetting (v : Nat) :
    taken (levelSetting v).clamped = if v = 1 ∨ v = 8 ∨ v = 16 ∨ v = 32 then .ok else .adjusted := by
  rw [taken, if_congr (levelSetting_clamped v) rfl rfl, ite_not]

/-- The trigger level is one of four (R161). -/
theorem levelSetting_value (v : Nat) : (levelSetting v).value = 1 ∨ (levelSetting v).value = 8 ∨
    (levelSetting v).value = 16 ∨ (levelSetting v).value = 32 := by
  unfold levelSetting
  dsimp only
  split_ifs <;> simp

/-! ### The request -/

/-- The queues with the settings of a taken SET_ATTENTION (R161). -/
def NoticeQueues.withSettings (q : NoticeQueues) (urgent routine : Bool) (level : Nat) : NoticeQueues :=
  { q with urgentEnable := urgent, routineEnable := routine, level := level }

namespace State

variable (s : State) {urgent routine : Nat} (level : Nat)

theorem setAttention_of_bad (h : 1 < urgent ∨ 1 < routine) : s.setAttention urgent routine level = s.refuse .badValue := by
  unfold setAttention
  rcases h with h | h
  · rw [enableArg_of_gt h]
  · rw [enableArg_of_gt h]
    cases enableArg urgent <;> rfl

theorem setAttention_of_enables (hu : urgent ≤ 1) (hr : routine ≤ 1) : s.setAttention urgent routine level =
    (s.withNotices (s.notices.withSettings (decide (urgent = 1)) (decide (routine = 1)) (levelSetting level).value)).accept
      (taken (levelSetting level).clamped) := by
  rw [setAttention, enableArg_of_le hu, enableArg_of_le hr]
  rfl

theorem withNotices_frame (q : NoticeQueues) : onlyChanges [.journal, .notices] s (s.withNotices q) := fun x hx => by
  cases x <;> first | rfl | simp at hx

end State

/-- Settles O52: the enables are read before anything is written, and ATTENTION is a function of the queues written. -/
theorem setAttentionTakesTheNextLevel : Obligations.SetAttentionTakesTheNextLevel := by
  intro s urgent routine level hp
  refine ⟨_, congrArg Host.Outcome.next (State.request_of_powered hp _), ?_⟩
  split
  · next bad => exact refused_of (s.atWork.setAttention_of_bad level bad)
  · next good =>
    have work := s.atWork.setAttention_of_enables (urgent := urgent) (routine := routine) level (by omega) (by omega)
    rw [taken_levelSetting] at work
    rw [serve_taken work rfl]
    refine ⟨takenOk_of (s.atWork.withNotices_frame _), rfl, ?_⟩
    rw [State.attention_iff]
    simp [NoticeQueues.withSettings]

end Sys2Proof.Machine
end

section
/-! FETCH_NOTICE: the notice whose turn it is leaves its queue, and the body of Table 10-7 (R158, R159, R176). -/

namespace Sys2Proof.Machine

namespace NoticeQueues

variable (q : NoticeQueues) (routine : Bool) (n : Notice)

/-- The fields of Table 10-7. -/
def fetchFields : List (Nat × Nat) :=
  [(1, flagCode routine), (1, q.urgent.length), (1, q.routine.length),
    (1, 2 * flagCode q.urgentLost + flagCode q.routineLost), (1, n.kind.code), (1, (n.station.map Fin.val).getD 0xFF),
    (1, (n.posKind.map Kind.code).getD 0xFF), (1, n.tool), (2, n.tag), (4, n.detailA), (2, n.detailB), (4, n.time)]

theorem fetchBytes_eq : q.fetchBytes routine n = layout (q.fetchFields routine n) := by
  unfold fetchBytes Notice.bytes fetchFields layout
  simp only [List.flatMap_cons, List.flatMap_nil, List.append_assoc, List.append_nil]

theorem length_fetchBytes : (q.fetchBytes routine n).length = 20 := by
  rw [fetchBytes_eq, length_layout]
  rfl

theorem fetchBytes_holds : bodyHolds (q.fetchBytes routine n) (offsets 0 (q.fetchFields routine n)) := by
  rw [fetchBytes_eq]
  exact bodyHolds_layout (List.Subset.refl _)

/-- The queues after the removal of the oldest notice of one of them (R157, R158). -/
def afterFetch : NoticeQueues := if routine then q.afterRoutine q.routine.tail else q.afterUrgent q.urgent.tail

variable {q routine n}

/-- The notice whose turn it is: a routine one where no urgent one waits or four urgent ones have been fetched (R158). -/
theorem fetch_turn (turn : if routine then q.routine.head? = some n ∧ (q.urgent = [] ∨ q.count = 4)
    else q.urgent.head? = some n ∧ (q.routine = [] ∨ q.count ≠ 4)) :
    q.fetch = some (routine, n, q.afterFetch routine) := by
  cases routine with
  | false =>
    obtain ⟨head, turn⟩ := turn
    obtain ⟨rest, queue⟩ := List.head?_eq_some_iff.1 head
    rw [fetch_urgent queue turn, afterFetch, queue]
    rfl
  | true =>
    obtain ⟨head, turn⟩ := turn
    obtain ⟨rest, queue⟩ := List.head?_eq_some_iff.1 head
    rw [fetch_routine queue turn, afterFetch, queue]
    rfl

theorem afterUrgent_eq (q : NoticeQueues) (rest : List Notice) : q.afterUrgent rest =
    { q with
      urgent := rest
      urgentLost := q.urgentLost && !rest.isEmpty
      count := if rest = [] then 0 else min 4 (q.count + 1) } := by
  cases rest <;> simp [afterUrgent]

theorem afterRoutine_eq (q : NoticeQueues) (rest : List Notice) : q.afterRoutine rest =
    { q with
      routine := rest
      routineLost := q.routineLost && !rest.isEmpty
      count := 0 } := by
  cases rest <;> simp [afterRoutine]

end NoticeQueues

/-- Settles O51: a fetch takes the notice whose turn it is, and its body is a run of fields. -/
theorem fetchNoticeTakesTurns : Obligations.FetchNoticeTakesTurns := by
  rintro s q hp rfl
  refine ⟨_, congrArg Host.Outcome.next (State.request_of_powered hp _), fun noUrgent noRoutine => ?empty,
    fun routine n turn => ?_⟩
  case empty =>
    exact refused_of (State.fetchNotice_of_none (s := s.atWork) (NoticeQueues.fetch_of_empty noUrgent noRoutine))
  have work := State.fetchNotice_of_some (s := s.atWork) (NoticeQueues.fetch_turn turn)
  rw [serve_taken work rfl]
  refine ⟨?queues, onlyChanges_withLink (s.atWork.withNotices_frame _), _, rfl, NoticeQueues.length_fetchBytes .., ?body⟩
  case queues =>
    simp only [State.withLink_notices, State.withNotices_notices, State.atWork_notices, NoticeQueues.afterFetch,
      NoticeQueues.afterRoutine_eq, NoticeQueues.afterUrgent_eq]
  case body =>
    rw [← flagCode_pair]
    exact NoticeQueues.fetchBytes_holds _ _ _

end Sys2Proof.Machine
end

section
/-! The notice queues and the clock at every step: within their bounds, the lost flag of an empty queue clear, the count of an
empty urgent queue 0, and the clock a 32-bit number (R155, R156, R157, R158, R161). -/

namespace Sys2Proof.Machine

namespace NoticeQueues

variable {q r : NoticeQueues}

/-! ### The operations of the queues -/

/-- A notice joins a queue with room, or sets the lost flag of a queue that is full and so not empty (R156, R157). -/
theorem ok.push (h : q.ok) (urgent : Bool) (n : Notice) : (q.push urgent n).ok := by
  obtain ⟨urgentRoom, routineRoom, count, urgentEmpty, routineEmpty, level⟩ := h
  unfold NoticeQueues.push urgentCapacity routineCapacity
  split
  · split
    · exact ⟨by simp; omega, routineRoom, count, by simp, routineEmpty, level⟩
    · next full =>
      have waits : q.urgent ≠ [] := fun empty => by simp [empty] at full
      exact ⟨urgentRoom, routineRoom, count, fun empty => absurd empty waits, routineEmpty, level⟩
  · split
    · exact ⟨urgentRoom, by simp; omega, count, urgentEmpty, by simp, level⟩
    · next full =>
      have waits : q.routine ≠ [] := fun empty => by simp [empty] at full
      exact ⟨urgentRoom, routineRoom, count, urgentEmpty, fun empty => absurd empty waits, level⟩

theorem ok.grown (h : q.ok) (g : Grown q r) : r.ok := by
  induction g with
  | refl => exact h
  | push _ urgent n ih => exact ih.push urgent n

theorem ok.afterUrgent (h : q.ok) {n : Notice} {rest : List Notice} (hu : q.urgent = n :: rest) :
    (q.afterUrgent rest).ok := by
  obtain ⟨urgentRoom, routineRoom, -, -, routineEmpty, level⟩ := h
  rw [hu, List.length_cons] at urgentRoom
  rw [afterUrgent_eq]
  refine ⟨Nat.le_of_succ_le urgentRoom, routineRoom, ?count, ?empty, routineEmpty, level⟩
  case count => dsimp only; split <;> omega
  case empty => rintro (rfl : rest = []); simp

theorem ok.afterRoutine (h : q.ok) {n : Notice} {rest : List Notice} (hr : q.routine = n :: rest) :
    (q.afterRoutine rest).ok := by
  obtain ⟨urgentRoom, routineRoom, -, urgentEmpty, -, level⟩ := h
  rw [hr, List.length_cons] at routineRoom
  rw [afterRoutine_eq]
  refine ⟨urgentRoom, Nat.le_of_succ_le routineRoom, Nat.zero_le _, fun empty => ⟨(urgentEmpty empty).1, rfl⟩, ?empty,
    level⟩
  case empty => rintro (rfl : rest = []); simp

theorem ok.withSettings (h : q.ok) (urgent routine : Bool) (v : Nat) :
    (q.withSettings urgent routine (levelSetting v).value).ok := by
  obtain ⟨urgentRoom, routineRoom, count, urgentEmpty, routineEmpty, -⟩ := h
  exact ⟨urgentRoom, routineRoom, count, urgentEmpty, routineEmpty, levelSetting_value v⟩

theorem ok_fresh : NoticeQueues.fresh.ok := by simp [ok, fresh]

end NoticeQueues

/-! ### What keeps the queues in bounds -/

/-- Queues in bounds stay in bounds from the first state to the second. -/
structure KeepsQueues (s t : State) : Prop where
  keeps : queuesOk s → queuesOk t

namespace KeepsQueues

theorem refl (s : State) : KeepsQueues s s := ⟨id⟩

theorem trans {s t u : State} (h : KeepsQueues s t) (k : KeepsQueues t u) : KeepsQueues s u := ⟨k.keeps ∘ h.keeps⟩

theorem ite {s t u : State} {c : Prop} [Decidable c] (h : KeepsQueues s t) (k : KeepsQueues s u) :
    KeepsQueues s (if c then t else u) := by
  split <;> assumption

/-- Nothing but the queues and the clock is looked at. -/
theorem ofFrame {s t : State} {parts : List Part} (h : onlyChanges parts s t) (notices : .notices ∉ parts)
    (clock : .clock ∉ parts) : KeepsQueues s t := by
  have sameQueues : t.notices = s.notices := h .notices notices
  have sameClock : t.clock = s.clock := h .clock clock
  exact ⟨fun ⟨queues, bound⟩ => ⟨sameQueues ▸ queues, sameClock ▸ bound⟩⟩

/-- The work of the blocks only makes notices. -/
theorem ofWorked {s t : State} (h : Worked s t) : KeepsQueues s t :=
  ⟨fun ⟨queues, bound⟩ => ⟨queues.grown h.notices, h.clock ▸ bound⟩⟩

variable (s : State)

theorem withNotices {q : NoticeQueues} (h : s.notices.ok → q.ok) : KeepsQueues s (s.withNotices q) := ⟨And.imp_left h⟩

theorem withClock {k : Nat} (h : k < 4294967296) : KeepsQueues s (s.withClock k) :=
  ⟨fun ⟨queues, _⟩ => ⟨queues, h⟩⟩

theorem withLink (l : LinkPort) : KeepsQueues s (s.withLink l) := ⟨id⟩

theorem withPowered (b : Bool) : KeepsQueues s (s.withPowered b) := ⟨id⟩

theorem beginEvent : KeepsQueues s s.beginEvent := ⟨id⟩

theorem atWork : KeepsQueues s s.atWork := ⟨id⟩

theorem resetBlocks : KeepsQueues s s.resetBlocks :=
  ⟨fun _ => ⟨NoticeQueues.ok_fresh, (by decide : 0 < 4294967296)⟩⟩

/-! ### Requests -/

theorem fetchNotice : KeepsQueues s s.fetchNotice.state := by
  rcases s.notices.fetch_cases with empty | ⟨n, rest, queue, fetched⟩ | ⟨n, rest, queue, fetched⟩
  · rw [State.fetchNotice_of_none empty]
    exact refl s
  · rw [State.fetchNotice_of_some fetched]
    exact withNotices s fun ok => ok.afterUrgent queue
  · rw [State.fetchNotice_of_some fetched]
    exact withNotices s fun ok => ok.afterRoutine queue

theorem setAttention (urgent routine level : Nat) : KeepsQueues s (s.setAttention urgent routine level).state := by
  by_cases bad : 1 < urgent ∨ 1 < routine
  · rw [s.setAttention_of_bad level bad]
    exact refl s
  · rw [s.setAttention_of_enables level (by omega) (by omega)]
    exact withNotices s fun ok => ok.withSettings ..

theorem setStation (station present eMin blank air stale action timeout : Nat) :
    KeepsQueues s (s.setStation station present eMin blank air stale action timeout).state := by
  unfold State.setStation
  split
  · split
    · exact refl s
    · exact trans (t := (s.commit _).setConfig ..) ⟨id⟩ (ofWorked (.movePresence ..))
  · exact refl s

/-- The work of every request keeps the queues in bounds. -/
theorem work {c : Instr} {f : State → Answer} (h : workOf c = some f) : KeepsQueues s (f s).state := by
  cases c <;> simp only [workOf, Option.some.injEq, reduceCtorEq] at h <;> subst h
  case defineTool => exact ofWorked (.defineTool ..)
  case adjustTool => exact ofWorked (.adjustTool ..)
  case readTool => exact ofWorked (.readTool ..)
  case deleteTool => exact ofWorked (.deleteTool ..)
  case renewTool => exact ofWorked (.renewTool ..)
  case withdrawTool => exact ofWorked (.withdrawTool ..)
  case reinstateTool => exact ofWorked (.reinstateTool ..)
  case clearReference => exact ofWorked (.clearReference ..)
  case defineGroup => exact ofWorked (.defineGroup ..)
  case readGroup => exact ofWorked (.readGroup ..)
  case deleteGroup => exact ofWorked (.deleteGroup ..)
  case setStation => exact setStation ..
  case readStation => exact ofWorked (.readStation ..)
  case mount => exact ofWorked (.mount ..)
  case dismount => exact ofWorked (.dismount ..)
  case confirmSwap => exact ofWorked (.confirmSwap ..)
  case cancelSwap => exact ofWorked (.cancelSwap ..)
  case swapNow => exact ofWorked (.swapNow ..)
  case verdict => exact ofWorked (.verdict ..)
  case hold => exact ofWorked (.holdStation ..)
  case resume => exact ofWorked (.resumeStation ..)
  case clearFault => exact ofWorked (.clearFault ..)
  case resetStation => exact ofWorked (.resetStation ..)
  case fetchNotice => exact fetchNotice s
  case setAttention => exact setAttention ..
  case readCapture => exact ofWorked (.readCapture ..)
  case clearTables => exact ofWorked (.clearTables s)
  case resetSupervisor => exact withLink ..

theorem serve (f : State → Answer) (h : ∀ u, KeepsQueues u (f u).state) : KeepsQueues s (s.serve f) := by
  rw [State.serve_eq]
  exact ((atWork s).trans (h _)).trans (withLink ..)

theorem request (f : State → Answer) (h : ∀ u, KeepsQueues u (f u).state) : KeepsQueues s (s.request f) :=
  ite (serve s f h) (refl s)

/-! ### Frames -/

theorem frameWork (code : Nat) (body : List Byte) : KeepsQueues s (frameWork code body s).state := by
  unfold Machine.frameWork
  split
  · exact refl s
  · split
    · exact refl s
    · split
      · next f found =>
        obtain ⟨c, _, owned⟩ := Option.bind_eq_some_iff.1 found
        exact work s owned
      · exact refl s

theorem hunt : KeepsQueues s s.hunt := withLink ..

theorem takeFrame (frame : List Byte) : KeepsQueues s (s.takeFrame frame) :=
  ite (hunt s) (ite (hunt s) (serve s _ fun u => frameWork u _ _))

theorem receive (char : Byte) (error : Bool) : KeepsQueues s (s.receive char error) := by
  unfold State.receive
  split
  · exact ite (withLink ..) (refl s)
  · exact ite (hunt s) (ite (hunt s) (ite (takeFrame ..) (withLink ..)))
  · exact refl s
  · exact refl s

theorem receiveAll (chars : List Byte) : KeepsQueues s (s.receiveAll chars) := by
  unfold State.receiveAll
  induction chars generalizing s with
  | nil => exact refl s
  | cons c rest ih => exact (receive s c false).trans (ih _)

theorem gapPassed : KeepsQueues s s.gapPassed := by
  unfold State.gapPassed
  split
  · exact hunt s
  all_goals exact refl s

theorem replySent : KeepsQueues s s.replySent := by
  unfold State.replySent
  split
  · exact ite (((hunt s).trans (resetBlocks _)).trans (withLink ..)) (hunt s)
  all_goals exact refl s

/-! ### Events and steps -/

theorem event (f : State → State) (h : ∀ u, KeepsQueues u (f u)) : KeepsQueues s (s.event f) :=
  ite ((beginEvent s).trans (h _)) (refl s)

/-- The clock wraps within its 32 bits (R155), and the timers only make notices. -/
theorem millisecond : KeepsQueues s s.millisecond := by
  have clock : KeepsQueues s (s.withClock (clockNext s.clock)) := withClock s (Nat.mod_lt _ (by decide))
  rw [State.millisecond_eq]
  exact (clock.trans (ofWorked (.countDowns ..))).trans (withLink ..)

/-- Every command keeps the queues in bounds. -/
theorem exec {c : Instr} {s t : State} (h : Machine.exec c s = .next t) : KeepsQueues s t := by
  have owned {f : State → Answer} (hf : workOf c = some f) (u : State) : KeepsQueues u (f u).state := work u hf
  cases c <;> cases h
  case powerOn x => exact (((beginEvent s).trans (withPowered ..)).trans (resetBlocks _)).trans (withLink ..)
  case powerFail k => exact ite (ofFrame (s.takePowerFail_frame k) (by decide) (by decide)) (refl s)
  case sample => exact event s _ fun u => ofWorked (.takeSample ..)
  case burst => exact event s _ fun u => ofWorked (.takeBurst ..)
  case channelFaultLatch => exact event s _ fun u => ofWorked (.channelFaultLatch ..)
  case captureFreeze => exact event s _ fun u => ofWorked (.setCapture ..)
  case swapTimerExpiry => exact event s _ fun u => ofWorked (.timerExpiry ..)
  case requestFrame frame => exact event s _ fun u => receiveAll u frame
  case gapTimeout => exact event s _ gapPassed
  case replyComplete => exact event s _ replySent
  case receivedCharacter char error => exact event s _ fun u => receive u char error
  all_goals exact request s _ (owned rfl)

end KeepsQueues

/-- Settles O55: an idle millisecond moves the clock within its bounds, and every command keeps the queues. -/
theorem queuesStayInBounds : Obligations.QueuesStayInBounds := by
  intro s t h
  unfold step at h
  split at h
  · cases h
    exact (KeepsQueues.event s _ KeepsQueues.millisecond).keeps
  · next c rest _ => exact (KeepsQueues.exec h : KeepsQueues (s.withPending rest) t).keeps

end Sys2Proof.Machine
end

section
/-! The request bodies of Table 10-3: a body is a run of fields, and reading each at its offset gives the request back (R165,
R169, R172). -/

namespace Sys2Proof.Machine

/-! ### Reading a field at its offset -/

/-- A field past the first bytes of a body is read from the rest. -/
theorem field_append_right {a b : List Byte} {start count : Nat} (h : a.length ≤ start) :
    field (a ++ b) start count = field b (start - a.length) count := by
  unfold field
  rw [List.drop_append, List.drop_eq_nil_of_le h, List.nil_append]

/-- A value that fits its width is read back from the front of a body (R165). -/
theorem field_be_append {k v : Nat} (h : v < 256 ^ k) (rest : List Byte) : field (be k v ++ rest) 0 k = v := by
  rw [field_append (by rw [length_be, Nat.zero_add])]
  unfold field
  rw [List.drop_zero, List.take_of_length_le (length_be k v).le, num_be, Nat.mod_eq_of_lt h]

theorem field_be {k v : Nat} (h : v < 256 ^ k) : field (be k v) 0 k = v := by
  simpa using field_be_append h []

/-- The fields behind the first one of a body. -/
theorem field_behind {k v start count : Nat} (h : k ≤ start) (rest : List Byte) :
    field (be k v ++ rest) start count = field rest (start - k) count := by
  rw [field_append_right (by rwa [length_be]), length_be]

/-! ### The requests -/

/-- The eight tool numbers of a DEFINE_GROUP, one by one (R172). -/
theorem eight_of_length {chain : List Nat} (h : chain.length = 8) :
    ∃ n₀ n₁ n₂ n₃ n₄ n₅ n₆ n₇, chain = [n₀, n₁, n₂, n₃, n₄, n₅, n₆, n₇] := by
  match chain, h with
  | [_, _, _, _, _, _, _, _], _ => exact ⟨_, _, _, _, _, _, _, _, rfl⟩

/-- Settles O6: each field of a body stands behind those listed before it, and its value fits its width. -/
theorem requestBodiesRoundTrip : Obligations.RequestBodiesRoundTrip := by
  intro c code body hw he
  cases c
  case powerOn | powerFail | sample | burst | channelFaultLatch | captureFreeze | swapTimerExpiry | requestFrame | gapTimeout
    | replyComplete | receivedCharacter => cases he
  case' defineGroup chain _ _ _ _ _ _ _ _ =>
    have eight : chain.length = 8 := by simp [Instr.wf] at hw; tauto
    obtain ⟨_, _, _, _, _, _, _, _, rfl⟩ := eight_of_length eight
  all_goals
    cases he
    simp only [Instr.wf, Bool.and_eq_true, decide_eq_true_eq, List.all_cons] at hw
    exact ⟨by simp [requestLength, length_be], by simp [decodeRequest, field_be_append, field_be, field_behind, hw]⟩

end Sys2Proof.Machine
end

section
/-! The link port: a frame is assembled from its characters, checked, and handed to its owning block (R165 to R169). -/

namespace Sys2Proof.Machine

/-! ### Events of the port -/

namespace State

/-- A part with power takes the event, with an empty journal. -/
theorem next_event {s : State} (hp : s.powered = true) (f : State → State) :
    (.next (s.event f) : Host.Outcome State Fault Refusal) = .next (f (s.withJournal [])) :=
  congrArg _ (event_of_powered hp f)

/-- An event that writes nothing. -/
theorem withJournal_frame (s : State) : onlyChanges [.journal] s (s.withJournal []) :=
  fun y hy => by cases y <;> first | rfl | simp at hy

/-- An event that writes the port alone. -/
theorem withLink_event_frame (s : State) (x : LinkPort) : onlyChanges [.link, .journal] s ((s.withJournal []).withLink x) :=
  onlyChanges_trans (onlyChanges_mono s.withJournal_frame (by decide))
    (onlyChanges_mono ((s.withJournal []).withLink_frame x) (by decide))

end State

/-! ### Whole frames -/

/-- A whole frame by its lead byte, its length byte and its length (Table 10-1). -/
theorem isWholeFrame_iff {frame : List Byte} : isWholeFrame frame = true ↔
    frame.head? = some 0xD5#8 ∧ field frame 2 1 ≤ 240 ∧ frame.length = 6 + field frame 2 1 := by
  match frame with
  | [] | [_] | [_, _] => simp [isWholeFrame, field, num]
  | _ :: _ :: _ :: _ => simp [isWholeFrame, field, num, and_assoc]

namespace State

variable {s : State}

/-- The port with the characters that stand in assembly. -/
def assembling (s : State) (front : List Byte) : State :=
  s.withLink { s.link with state := .assemble, buffer := front, gap := 0 }

/-- A complete frame is taken alike whatever the port's state and partial frame were. -/
theorem takeFrame_withLink (s : State) (state : PortState) (buffer : List Byte) (gap : Nat) (frame : List Byte) :
    (s.withLink { s.link with state := state, buffer := buffer, gap := gap }).takeFrame frame = s.takeFrame frame := rfl

/-- What a character does in ASSEMBLE, said by the number of characters before it (R166). -/
theorem assemble_eq (s : State) (char : Byte) : s.assemble char =
    if 2 ≤ s.link.buffer.length ∧ 240 < field (s.link.buffer ++ [char]) 2 1 then s.hunt
    else if 2 ≤ s.link.buffer.length ∧ s.link.buffer.length + 1 = 6 + field (s.link.buffer ++ [char]) 2 1 then
      s.takeFrame (s.link.buffer ++ [char])
    else s.withLink { s.link with buffer := s.link.buffer ++ [char], gap := 0 } := by
  simp [assemble]

/-- The rest of a whole frame completes it: no character before the last one ends the assembly (R166). -/
theorem receiveAll_assembling {front rest frame : List Byte} (whole : isWholeFrame frame = true)
    (joined : front ++ rest = frame) (more : rest ≠ []) : (s.assembling front).receiveAll rest = s.takeFrame frame := by
  obtain ⟨-, short, length⟩ := isWholeFrame_iff.1 whole
  induction rest generalizing front with
  | nil => exact absurd rfl more
  | cons char rest ih =>
    rw [List.append_cons] at joined
    have total : front.length + 1 + rest.length = 6 + field frame 2 1 := by
      simpa [length, Nat.add_assoc, Nat.add_comm 1] using congrArg List.length joined
    have lengthByte (two : 2 ≤ front.length) : field (front ++ [char]) 2 1 = field frame 2 1 := by
      rw [← joined, field_append (a := front ++ [char]) (by rw [List.length_append]; exact Nat.succ_le_succ two)]
    have fits : ¬(2 ≤ front.length ∧ 240 < field (front ++ [char]) 2 1) := fun ⟨two, long⟩ => by
      rw [lengthByte two] at long; omega
    have assembled := ((s.assembling front).assemble_eq char).trans (if_neg fits)
    change ((s.assembling front).assemble char).receiveAll rest = _
    rw [assembled]
    cases rest with
    | nil =>
      rw [List.append_nil] at joined
      subst joined
      have two : 2 ≤ front.length := by simp at total; omega
      exact (if_pos ⟨two, total⟩).trans (s.takeFrame_withLink .assemble front 0 _)
    | cons next rest =>
      have unfinished : ¬(2 ≤ front.length ∧ front.length + 1 = 6 + field (front ++ [char]) 2 1) := fun ⟨two, last⟩ => by
        rw [lengthByte two] at last; simp at total; omega
      exact (congrArg (receiveAll · (next :: rest)) (if_neg unfinished)).trans (ih joined (by simp))

/-- In HUNT the characters of a whole frame make one complete frame (R166, R168). -/
theorem receiveAll_of_whole {frame : List Byte} (hunting : s.link.state = .hunt) (whole : isWholeFrame frame = true) :
    s.receiveAll frame = s.takeFrame frame := by
  obtain ⟨lead, -, length⟩ := isWholeFrame_iff.1 whole
  obtain ⟨rest, rfl⟩ := List.head?_eq_some_iff.1 lead
  have started : s.receive 0xD5#8 false = s.assembling [0xD5#8] := by simp [receive, hunting, assembling]
  have more : rest ≠ [] := by rintro rfl; simp at length; omega
  change (s.receive 0xD5#8 false).receiveAll rest = _
  rw [started]
  exact receiveAll_assembling whole rfl more

end State

theorem exec_requestFrame {s : State} {frame : List Byte} (hp : s.powered = true) (hunting : s.link.state = .hunt)
    (whole : isWholeFrame frame = true) : exec (.requestFrame frame) s = .next ((s.withJournal []).takeFrame frame) :=
  (State.next_event hp _).trans (congrArg _ (State.receiveAll_of_whole hunting whole))

/-! ### The checks of a complete frame -/

/-- A request begins the journal itself, so what stood there before does not count (log entry 3). -/
theorem State.serve_withJournal (s : State) (j : List Commit) (work : State → Answer) :
    (s.withJournal j).serve work = s.serve work := rfl

/-- A whole frame with a wrong CRC or a foreign address is discarded; another one is a request (R168). -/
theorem State.takeFrame_eq {frame : List Byte} (s : State) (whole : isWholeFrame frame = true) :
    s.takeFrame frame =
      if field frame (frame.length - 2) 2 ≠ (crc16 ((frame.drop 1).take (frame.length - 3))).toNat ∨
          field frame 1 1 ≠ s.link.address then s.hunt
      else s.serve (frameWork (field frame 3 1) ((frame.drop 4).take (field frame 2 1))) := by
  obtain ⟨-, -, length⟩ := isWholeFrame_iff.1 whole
  unfold takeFrame
  dsimp only
  rw [show frame.length - 2 = 4 + field frame 2 1 by omega, show frame.length - 3 = 3 + field frame 2 1 by omega, ite_or]

/-- Settles O8: the CRC and the address come first, then the code, then the length (R168, R169). -/
theorem framesAreCheckedFirst : Obligations.FramesAreCheckedFirst := by
  intro s frame hp hunting whole
  refine ⟨_, exec_requestFrame hp hunting whole, ?_⟩
  obtain ⟨-, -, length⟩ := isWholeFrame_iff.1 whole
  have body : ((frame.drop 4).take (field frame 2 1)).length = frame.length - 6 := by
    rw [List.length_take, List.length_drop]; omega
  rw [State.takeFrame_eq _ whole, State.withJournal_link, State.serve_withJournal]
  split
  · exact ⟨rfl, s.withLink_event_frame _⟩
  · split
    · next unknown => exact refused_of (by simp [frameWork, unknown])
    · next len known =>
      split
      · exact refused_of (by simp [frameWork, known, body, show frame.length - 6 ≠ len by omega])
      · rfl

/-! ### Frames that carry requests -/

/-- A request's code is one byte, and its body is no longer than a frame's (Table 10-3). -/
theorem requestLength_bounds {code len : Nat} (h : requestLength code = some len) : code < 256 ∧ len ≤ 240 := by
  unfold requestLength at h
  split at h <;> cases h <;> decide

/-- The owning block's work of a request that can stand in a frame. -/
theorem workOf_of_encodeRequest {c : Instr} {code : Nat} {body : List Byte} (h : encodeRequest c = some (code, body)) :
    ∃ work, workOf c = some work := by
  cases c <;> first | exact ⟨_, rfl⟩ | cases h

/-- A request as a command of its own is its owning block's work (log entry 11). -/
theorem exec_request {c : Instr} {work : State → Answer} (h : workOf c = some work) (s : State) :
    exec c s = .next (s.request work) := by
  cases c <;> cases h <;> rfl

/-- The work for a frame that carries a request is that of the request (R169). -/
theorem frameWork_encodeRequest {c : Instr} {code : Nat} {body : List Byte} {work : State → Answer} (hw : c.wf = true)
    (he : encodeRequest c = some (code, body)) (owned : workOf c = some work) : frameWork code body = work := by
  obtain ⟨length, decoded⟩ := requestBodiesRoundTrip c code body hw he
  funext s
  simp [frameWork, length, decoded, owned]

section

variable {node code : Nat} {body : List Byte}

/-- The bytes of Table 10-1 between the lead byte and the CRC. -/
def innerFrame (node code : Nat) (body : List Byte) : List Byte :=
  BitVec.ofNat 8 node :: BitVec.ofNat 8 body.length :: BitVec.ofNat 8 code :: body

theorem encodeFrame_eq (node : Nat) (c : Instr) :
    encodeFrame node c = (encodeRequest c).map fun (code, body) => sealed (innerFrame node code body) := rfl

theorem length_sealed (inner : List Byte) : (sealed inner).length = inner.length + 3 := by
  simp [sealed, length_be]

theorem sealed_length (short : body.length ≤ 240) : field (sealed (innerFrame node code body)) 2 1 = body.length := by
  simp [sealed, innerFrame, field, num]; omega

theorem isWholeFrame_sealed (short : body.length ≤ 240) : isWholeFrame (sealed (innerFrame node code body)) = true := by
  rw [isWholeFrame_iff, sealed_length short, length_sealed]
  exact ⟨rfl, short, by simp [innerFrame]; omega⟩

/-- A sealed frame holds the CRC of what it seals (R167). -/
theorem crc_sealed (inner : List Byte) : field (sealed inner) ((sealed inner).length - 2) 2 =
    (crc16 (((sealed inner).drop 1).take ((sealed inner).length - 3))).toNat := by
  rw [length_sealed]
  have bytes : ((sealed inner).drop 1).take (inner.length + 3 - 3) = inner := by simp [sealed]
  rw [bytes]
  unfold sealed
  rw [field_append_right (by simp)]
  simpa using field_be (k := 2) (crc16 inner).isLt

/-- A frame to this node hands its code and its body to the owning block (R168, R169). -/
theorem State.takeFrame_sealed (s : State) (here : s.link.address < 256) (byte : code < 256) (short : body.length ≤ 240) :
    s.takeFrame (sealed (innerFrame s.link.address code body)) = s.serve (frameWork code body) := by
  have address : field (sealed (innerFrame s.link.address code body)) 1 1 = s.link.address := by
    simp [sealed, innerFrame, field, num]; omega
  have request : field (sealed (innerFrame s.link.address code body)) 3 1 = code := by
    simp [sealed, innerFrame, field, num]; omega
  have carried : ((sealed (innerFrame s.link.address code body)).drop 4).take body.length = body := by
    simp [sealed, innerFrame]
  rw [takeFrame_eq s (isWholeFrame_sealed short), if_neg (by simp [crc_sealed, address]), sealed_length short, request, carried]

end

/-- Settles O7: the frame is assembled, passes its checks, and its code and body are read back as the request. -/
theorem wholeFrameIsItsRequest : Obligations.WholeFrameIsItsRequest := by
  intro s c frame hp hunting address hw he
  rw [encodeFrame_eq] at he
  obtain ⟨⟨code, body⟩, encoded, rfl⟩ := Option.map_eq_some_iff.1 he
  obtain ⟨work, owned⟩ := workOf_of_encodeRequest encoded
  obtain ⟨byte, short⟩ := requestLength_bounds (requestBodiesRoundTrip c code body hw encoded).1
  calc exec (.requestFrame (sealed (innerFrame s.link.address code body))) s
      = .next ((s.withJournal []).takeFrame _) := exec_requestFrame hp hunting (isWholeFrame_sealed short)
    _ = .next ((s.withJournal []).serve (frameWork code body)) :=
      congrArg _ ((s.withJournal []).takeFrame_sealed (Nat.lt_of_le_of_lt address (by decide)) byte short)
    _ = .next (s.serve work) := by rw [State.serve_withJournal, frameWork_encodeRequest hw encoded owned]
    _ = exec c s := by rw [exec_request owned, State.request_of_powered hp]

/-! ### The port's own moves -/

namespace State

/-- A port in ASSEMBLE takes the last character of a frame as the frame's characters in HUNT are taken (R166, R168). -/
theorem receiveAll_buffer {s : State} {char : Byte} (lead : s.link.buffer.head? = some 0xD5#8)
    (fits : field (s.link.buffer ++ [char]) 2 1 ≤ 240)
    (last : s.link.buffer.length + 1 = 6 + field (s.link.buffer ++ [char]) 2 1) :
    (s.withLink { s.link with state := .hunt }).receiveAll (s.link.buffer ++ [char]) =
      s.takeFrame (s.link.buffer ++ [char]) := by
  have whole : isWholeFrame (s.link.buffer ++ [char]) = true :=
    isWholeFrame_iff.2 ⟨by rw [List.head?_append, lead]; rfl, fits, by rw [List.length_append]; exact last⟩
  exact (receiveAll_of_whole rfl whole).trans (s.takeFrame_withLink .hunt s.link.buffer s.link.gap _)

theorem gapPassed_eq (s : State) : s.gapPassed = s.withLink (if s.link.state = .assemble then s.link.hunting else s.link) := by
  unfold gapPassed
  cases h : s.link.state <;> rfl

/-- A reply that asks for no reset ends in HUNT (R169, R173). -/
theorem replySent_eq {s : State} (h : s.link.state = .reply → s.link.resetPending = false) :
    s.replySent = s.withLink (if s.link.state = .reply then s.link.hunting else s.link) := by
  unfold replySent
  cases hs : s.link.state
  case reply => rw [h hs]; rfl
  all_goals rfl

end State

/-- Settles O9: a character by the state of the port, a gap and the end of a reply by the port alone. -/
theorem portAssemblesAndAnswers : Obligations.PortAssemblesAndAnswers := by
  intro s hp
  refine ⟨fun char error => ⟨_, State.next_event hp _, ?_⟩, ⟨_, State.next_event hp _, ?_⟩,
    fun noReset => ⟨_, State.next_event hp _, ?_⟩⟩
  · unfold State.receive
    rw [State.withJournal_link, State.assemble_eq, State.withJournal_link]
    cases s.link.state with
    | hunt =>
      dsimp only
      split
      · exact ⟨s.withLink_event_frame _, rfl⟩
      · exact ⟨s.withLink_event_frame s.link, rfl⟩
    | assemble =>
      dsimp only
      rw [← ite_or]
      split_ifs with dropped last
      · exact ⟨s.withLink_event_frame _, rfl⟩
      · have fits := Nat.le_of_not_lt fun long => dropped (.inr ⟨last.1, long⟩)
        refine ⟨_, State.next_event (s := s.withLink { s.link with state := .hunt }) hp _, fun lead => ?_⟩
        exact (State.receiveAll_buffer (s := s.withJournal []) lead fits last.2).symm
      · exact ⟨s.withLink_event_frame _, rfl⟩
    | execute => exact s.withJournal_frame
    | reply => exact s.withJournal_frame
  · rw [State.gapPassed_eq]
    exact ⟨s.withLink_event_frame _, rfl⟩
  · rw [State.replySent_eq (s := s.withJournal []) noReset]
    exact ⟨s.withLink_event_frame _, rfl⟩

end Sys2Proof.Machine
end

section
/-! A step on a queue that is not empty: the command at its front, with the queue's rest (R136). -/

namespace Sys2Proof.Machine

/-- Settles O1: on a queue with a front, the queue's match in `step` takes its second branch. -/
theorem frontCommandIsExecuted : Obligations.FrontCommandIsExecuted := by
  intro c rest s front
  rw [step, front]

end Sys2Proof.Machine
end
